-- ==== Sys2Proof/Word.lean ====
section
/-! DEFINITION. The widths the block's ports and storage use (00_scope.md R6, R10; 30_encoding.md R80). -/

namespace Sys2Proof

/-- One byte of a transport that carries command words as bytes (20_memory.md R62). -/
abbrev Byte := BitVec 8

/-- One 64-bit word of the command port or of the response port (30_encoding.md R80). -/
abbrev Word64 := BitVec 64

/-- A 32-bit pattern: a phase, a phase increment, STATUS, a parameter value (00_scope.md Table 00-2). -/
abbrev Word32 := BitVec 32

/-- An int16 sample in Q1.15 (00_scope.md Table 00-2). -/
abbrev Sample := BitVec 16

/-- The index of an operator: NUM_OPS = 6 is fixed (00_scope.md R5). -/
abbrev OpIx := Fin 6

/-- The index of a matrix edge: NUM_EDGES = 15 is fixed (00_scope.md R5). -/
abbrev EdgeIx := Fin 15

end Sys2Proof
end

