-- ==== Sys2Proof/Syntax.lean ====
section
/-! DEFINITION. The commands (one constructor per row of spec/opcode_table.json), their opcodes, and the names of the
parameters (30_encoding.md R81 to R83, R91, R92; 10_state.md R25 to R28). -/

namespace Sys2Proof

/-- The ten opcodes of 30_encoding.md Table 30-2. -/
inductive Opcode where
  | nop | setParam | beginEdit | endEdit | noteOn | noteOff | voiceKill | tick | readParam | readVoice
deriving DecidableEq, Repr

/-- A command with its operands (30_encoding.md R83). Indices and note numbers are numbers; VALUE is a 32-bit pattern,
whose reading as signed or unsigned depends on the parameter it is written to. -/
inductive Instr where
  /-- NOP (46_param_commands.md R190) -/
  | nop
  /-- SET_PARAM id, value (R191) -/
  | setp (id : Nat) (value : Word32)
  /-- BEGIN_EDIT id (R194) -/
  | bedit (id : Nat)
  /-- END_EDIT id (R195) -/
  | eedit (id : Nat)
  /-- NOTE_ON voice, note, vel (47_voice_commands.md R210) -/
  | non (voice note vel : Nat)
  /-- NOTE_OFF voice (R211) -/
  | noff (voice : Nat)
  /-- VOICE_KILL voice (R212) -/
  | kill (voice : Nat)
  /-- TICK (45_tick.md R180) -/
  | tick
  /-- READ_PARAM id (46_param_commands.md R196) -/
  | rdp (id : Nat)
  /-- READ_VOICE voice, sel (47_voice_commands.md R213) -/
  | rdv (voice sel : Nat)
deriving DecidableEq, Repr

/-- The rows of 10_state.md Table 10-1, in the order of their offsets 0x00 to 0x14. -/
inductive OpField where
  | ratioCoarse | ratioFine | keytrack | fixedInc | octave | waveform | startPhase
  | envDelay | envAttack | envHold | envDecay | envSustain | envRelease
  | envAmp | envRatioCoarse | envRatioFine
  | lfoInc | lfoShape | lfoRetrig | lfoRatioCoarse | lfoRatioFine
deriving DecidableEq, Repr

/-- The rows of 10_state.md Table 10-2, in the order of their offsets 0 to 2. -/
inductive EdgeField where
  | depth | enable | mode
deriving DecidableEq, Repr

/-- The two parameters of a mixer slot (10_state.md Table 10-4), in the order of their ids. -/
inductive MixField where
  | level | enable
deriving DecidableEq, Repr

/-- The RW parameters by role (00_scope.md R8; 10_state.md R25 to R28): the 190 stored values of the parameter
register file. -/
inductive ParamName where
  /-- P.OP[i].NAME -/
  | op (i : OpIx) (f : OpField)
  /-- P.FB[i] -/
  | fb (i : OpIx)
  /-- P.EDGE[k].NAME -/
  | edge (k : EdgeIx) (f : EdgeField)
  /-- P.MIX[i].NAME -/
  | mix (i : OpIx) (f : MixField)
  /-- P.MASTER -/
  | master
deriving DecidableEq, Repr

/-- What a known id names: a stored parameter, STATUS or CONFIG (20_memory.md R61, R65). -/
inductive Target where
  | param (n : ParamName)
  | status
  | config
deriving DecidableEq, Repr

end Sys2Proof
end

