-- ==== Sys2Proof/WellFormed.lean ====
section
/-! DEFINITION. When a command's operands fit their fields of the command word (30_encoding.md R81, R91: "VOICE, NOTE,
VEL and SEL literals must lie in [0, 255], and ID literals in [0, 65535]"). An operand that fits but is not legal
(VOICE ≥ NUM_VOICES, NOTE > 127, an unknown ID) is well-formed: the block itself reports it (R86, R91). -/

namespace Sys2Proof

/-- The operand fits the 16-bit field ID. -/
def fitsId (id : Nat) : Bool := decide (id < 65536)

/-- The operand fits an 8-bit field (VOICE, NOTE, VEL, SEL). -/
def fitsByte (x : Nat) : Bool := decide (x < 256)

/-- Every operand fits its field. -/
def Instr.wf : Instr → Bool
  | .nop => true
  | .setp id _ => fitsId id
  | .bedit id => fitsId id
  | .eedit id => fitsId id
  | .non voice note vel => fitsByte voice && fitsByte note && fitsByte vel
  | .noff voice => fitsByte voice
  | .kill voice => fitsByte voice
  | .tick => true
  | .rdp id => fitsId id
  | .rdv voice sel => fitsByte voice && fitsByte sel

end Sys2Proof
end

