-- ==== Sys2Proof/Decode.lean ====
section
/-! DEFINITION. The decoder, total over all 2^64 words (30_encoding.md R82 to R86), the encoder (Table 30-4), and the
little-endian byte order of a transport (20_memory.md R62). -/

namespace Sys2Proof

/-- `w[hi:lo]`, read as an unsigned integer (00_scope.md R6). -/
def bits (w : Word64) (hi lo : Nat) : Nat := w.toNat / 2 ^ lo % 2 ^ (hi + 1 - lo)

/-- The OP column of 30_encoding.md Table 30-2. -/
def Opcode.code : Opcode → Nat
  | .nop => 0x0
  | .setParam => 0x1
  | .beginEdit => 0x2
  | .endEdit => 0x3
  | .noteOn => 0x4
  | .noteOff => 0x5
  | .voiceKill => 0x6
  | .tick => 0x7
  | .readParam => 0x8
  | .readVoice => 0x9

/-- The opcode with a given OP field; OP 0xA to 0xF is illegal (30_encoding.md R85). -/
def Opcode.ofCode : Nat → Option Opcode
  | 0x0 => some .nop
  | 0x1 => some .setParam
  | 0x2 => some .beginEdit
  | 0x3 => some .endEdit
  | 0x4 => some .noteOn
  | 0x5 => some .noteOff
  | 0x6 => some .voiceKill
  | 0x7 => some .tick
  | 0x8 => some .readParam
  | 0x9 => some .readVoice
  | _ => none

/-- The match column of 30_encoding.md Table 30-2. -/
def Opcode.matchWord : Opcode → Word64
  | .nop => 0x0000_0000_0000_0000#64
  | .setParam => 0x1000_0000_0000_0000#64
  | .beginEdit => 0x2000_0000_0000_0000#64
  | .endEdit => 0x3000_0000_0000_0000#64
  | .noteOn => 0x4000_0000_0000_0000#64
  | .noteOff => 0x5000_0000_0000_0000#64
  | .voiceKill => 0x6000_0000_0000_0000#64
  | .tick => 0x7000_0000_0000_0000#64
  | .readParam => 0x8000_0000_0000_0000#64
  | .readVoice => 0x9000_0000_0000_0000#64

/-- The mask column of 30_encoding.md Table 30-2: the fixed bits, the must-be-zero bits among them. -/
def Opcode.mask : Opcode → Word64
  | .nop => 0xFFFF_FFFF_FFFF_FFFF#64
  | .setParam => 0xFFFF_0000_0000_0000#64
  | .beginEdit => 0xFFFF_0000_FFFF_FFFF#64
  | .endEdit => 0xFFFF_0000_FFFF_FFFF#64
  | .noteOn => 0xFF00_0000_FFFF_FFFF#64
  | .noteOff => 0xFF00_FFFF_FFFF_FFFF#64
  | .voiceKill => 0xFF00_FFFF_FFFF_FFFF#64
  | .tick => 0xFFFF_FFFF_FFFF_FFFF#64
  | .readParam => 0xFFFF_0000_FFFF_FFFF#64
  | .readVoice => 0xFF00_00FF_FFFF_FFFF#64

/-- The opcode of a command. -/
def Instr.opcode : Instr → Opcode
  | .nop => .nop
  | .setp _ _ => .setParam
  | .bedit _ => .beginEdit
  | .eedit _ => .endEdit
  | .non _ _ _ => .noteOn
  | .noff _ => .noteOff
  | .kill _ => .voiceKill
  | .tick => .tick
  | .rdp _ => .readParam
  | .rdv _ _ => .readVoice

/-- ID = w[47:32] (30_encoding.md R83). -/
def idField (w : Word64) : Nat := bits w 47 32

/-- VOICE = w[55:48]. -/
def voiceField (w : Word64) : Nat := bits w 55 48

/-- NOTE = w[47:40]. -/
def noteField (w : Word64) : Nat := bits w 47 40

/-- VEL = w[39:32]. -/
def velField (w : Word64) : Nat := bits w 39 32

/-- SEL = w[47:40]. -/
def selField (w : Word64) : Nat := bits w 47 40

/-- VALUE = w[31:0], a 32-bit pattern. -/
def valueField (w : Word64) : Word32 := BitVec.ofNat 32 (bits w 31 0)

/-- The command of an opcode with the operands of 30_encoding.md R83. -/
def operands (op : Opcode) (w : Word64) : Instr :=
  match op with
  | .nop => .nop
  | .setParam => .setp (idField w) (valueField w)
  | .beginEdit => .bedit (idField w)
  | .endEdit => .eedit (idField w)
  | .noteOn => .non (voiceField w) (noteField w) (velField w)
  | .noteOff => .noff (voiceField w)
  | .voiceKill => .kill (voiceField w)
  | .tick => .tick
  | .readParam => .rdp (idField w)
  | .readVoice => .rdv (voiceField w) (selField w)

/-- What a word decodes to (30_encoding.md R86). -/
inductive Decoded where
  /-- OP ≥ 0xA (R85) -/
  | illegal
  /-- OP ≤ 0x9 and a must-be-zero bit is 1 (R84) -/
  | reserved (op : Opcode)
  | command (i : Instr)
deriving DecidableEq, Repr

/-- `decode(w)` of 30_encoding.md R86. -/
def decode (w : Word64) : Decoded :=
  match Opcode.ofCode (bits w 63 60) with
  | none => .illegal
  | some op => if w &&& op.mask = op.matchWord then .command (operands op w) else .reserved op

/-- An 8-bit operand placed with its lowest bit at bit `lo`. -/
def placeByte (x lo : Nat) : Word64 := (BitVec.ofNat 8 x).setWidth 64 <<< lo

/-- An id placed in w[47:32]. -/
def placeId (id : Nat) : Word64 := (BitVec.ofNat 16 id).setWidth 64 <<< 32

/-- The OP field of an opcode. -/
def placeOp (op : Opcode) : Word64 := BitVec.ofNat 64 op.code <<< 60

/-- The encoding column of 30_encoding.md Table 30-4. -/
def encode (i : Instr) : Word64 :=
  match i with
  | .nop => placeOp .nop
  | .setp id value => placeOp .setParam ||| placeId id ||| value.setWidth 64
  | .bedit id => placeOp .beginEdit ||| placeId id
  | .eedit id => placeOp .endEdit ||| placeId id
  | .non voice note vel => placeOp .noteOn ||| placeByte voice 48 ||| placeByte note 40 ||| placeByte vel 32
  | .noff voice => placeOp .noteOff ||| placeByte voice 48
  | .kill voice => placeOp .voiceKill ||| placeByte voice 48
  | .tick => placeOp .tick
  | .rdp id => placeOp .readParam ||| placeId id
  | .rdv voice sel => placeOp .readVoice ||| placeByte voice 48 ||| placeByte sel 40

/-- The bytes of a word on a byte transport, bits [7:0] first (20_memory.md R62: WIRE_BYTE_ORDER is little-endian). -/
def wireBytes (w : Word64) : List Byte :=
  [BitVec.ofNat 8 (bits w 7 0), BitVec.ofNat 8 (bits w 15 8), BitVec.ofNat 8 (bits w 23 16), BitVec.ofNat 8 (bits w 31 24),
   BitVec.ofNat 8 (bits w 39 32), BitVec.ofNat 8 (bits w 47 40), BitVec.ofNat 8 (bits w 55 48), BitVec.ofNat 8 (bits w 63 56)]

/-- The next word of a byte transport and the bytes after it; none while fewer than eight bytes have come
(20_memory.md R62; every command is exactly one word, 30_encoding.md R90). -/
def ofWireBytes : List Byte → Option (Word64 × List Byte)
  | b0 :: b1 :: b2 :: b3 :: b4 :: b5 :: b6 :: b7 :: rest =>
    some (b7 ++ b6 ++ b5 ++ b4 ++ b3 ++ b2 ++ b1 ++ b0, rest)
  | _ => none

/-- The bytes of a sample on a byte transport, bits [7:0] first (20_memory.md R62: a sample is a whole word too). -/
def wireSample (x : Sample) : List Byte := [x.extractLsb' 0 8, x.extractLsb' 8 8]

/-- The bytes of a sample vector: its samples in voice order (30_encoding.md R89), each least significant byte first
(20_memory.md R62). -/
def wireVector (vec : List Sample) : List Byte := vec.flatMap wireSample

/-- The next sample vector of `n` samples on a byte transport and the bytes after it; none while fewer than `2 * n` bytes
have come (20_memory.md R62; `n` is NUM_VOICES, 30_encoding.md R89). -/
def ofWireVector : Nat → List Byte → Option (List Sample × List Byte)
  | 0, bs => some ([], bs)
  | n + 1, b0 :: b1 :: bs => (ofWireVector n bs).map fun r => ((b1 ++ b0) :: r.1, r.2)
  | _ + 1, _ => none

/-- Decoding the next command of a byte transport. -/
def decodeBytes (bs : List Byte) : Option (Decoded × List Byte) :=
  match ofWireBytes bs with
  | none => none
  | some (w, rest) => some (decode w, rest)

/-- A row of spec/opcode_table.json: its `nbits` low bits are `w`, every other bit of the word is 0. -/
def tableWord (nbits w : Nat) : Word64 := BitVec.ofNat 64 (w % 2 ^ nbits)

/-- The command this decoder reads from the word `w`, laid out in the transport's byte order; none where the word is
reserved or illegal. -/
def decodeTableWord (nbits w : Nat) : Option Instr :=
  match decodeBytes (wireBytes (tableWord nbits w)) with
  | some (.command i, _) => some i
  | _ => none

end Sys2Proof
end

