-- ==== Sys2Proof/Machine/Fixed.lean ====
section
/-! DEFINITION. The arithmetic of the rules, on mathematical integers (00_scope.md R7): every result is exact until a rule
writes a wrap or a saturation. -/

namespace Sys2Proof.Machine

/-- `floor_div(a, b)` for b > 0, rounding toward minus infinity (00_scope.md R7): Lean's `/` on `Int` for a positive
divisor. No rule divides by zero or by a negative number. -/
def floorDiv (a b : Int) : Int := a / b

/-- `clamp(a, lo, hi)` (R7). -/
def clamp (a lo hi : Int) : Int := min hi (max lo a)

/-- `sat16(a)` (R7). -/
def sat16 (a : Int) : Int := clamp a (-32768) 32767

/-- `u32(a) = a mod 2^32` as a pattern (R7): the only wrap-around. -/
def wrap32 (a : Int) : Word32 := BitVec.ofInt 32 a

/-- `shift(t, s)` of 40_operator.md R104: `t << s` for s ≥ 0, else `t >>> (-s)`. -/
def shift (t s : Int) : Int :=
  if 0 ≤ s then t * 2 ^ s.toNat else floorDiv t (2 ^ (-s).toNat)

end Sys2Proof.Machine
end

