-- ==== Sys2Proof/Config.lean ====
section
/-! DEFINITION. The configuration: what an implementation fixes before reset and never changes while the block runs
(00_scope.md R5, Table 00-1; 70_reset_and_hazards.md R253). The spec leaves no other value open, so there is no free value. -/

namespace Sys2Proof

/-- The constraints of 70_reset_and_hazards.md R253 on the OPEN parameters and the configuration tables.
The int16 and uint32 bounds of R253 are the entries' types. -/
def configOk (numVoices numWaves : Nat) (wave : List (List Sample)) (noteInc exp2Frac : List Word32) : Bool :=
  decide (1 ≤ numVoices) && decide (numVoices ≤ 256) &&
  decide (1 ≤ numWaves) && decide (numWaves ≤ 16) &&
  decide (wave.length = numWaves) && wave.all (fun t => decide (t.length = 1024)) &&
  decide (noteInc.length = 128) &&
  decide (exp2Frac.length = 4096) && decide (exp2Frac.head? = some 65536#32) &&
  exp2Frac.all (fun x => decide (65536 ≤ x.toNat) && decide (x.toNat < 131072))

/-- A configuration the block runs with. Its tables come with the check of R253, so a configuration that breaks the
check cannot be built ("A model must refuse a configuration that breaks them", 70_reset_and_hazards.md R253;
93_implementation_defined.md I19). -/
structure Config where
  /-- NUM_VOICES, OPEN in [1, 256] (92_eei_decisions.md D33) -/
  numVoices : Nat
  /-- NUM_WAVES, OPEN in [1, 16] (D8) -/
  numWaves : Nat
  /-- WAVE[w][j], int16, w < NUM_WAVES, j < 1024 (44_lut_mixer.md R165 to R167) -/
  wave : List (List Sample)
  /-- NOTE_INC[n], uint32, n < 128 (40_operator.md R104) -/
  noteInc : List Word32
  /-- EXP2_FRAC[f], f < 4096 (40_operator.md R103) -/
  exp2Frac : List Word32
  ok : configOk numVoices numWaves wave noteInc exp2Frac = true
deriving DecidableEq, Repr

/-- Offer a configuration to the model: it is refused (none) when it breaks R253. -/
def Config.make? (numVoices numWaves : Nat) (wave : List (List Sample)) (noteInc exp2Frac : List Word32) :
    Option Config :=
  if h : configOk numVoices numWaves wave noteInc exp2Frac = true then
    some ⟨numVoices, numWaves, wave, noteInc, exp2Frac, h⟩
  else none

end Sys2Proof
end

