-- ==== Sys2Proof/Machine/ParamMap.lean ====
section
/-! DEFINITION. The parameter map: ids to parameters by identifier arithmetic (20_memory.md R65; 10_state.md R25 to R30)
and, for each parameter, its signedness, range and reset value (10_state.md Tables 10-1, 10-2, 10-4, R26). -/

namespace Sys2Proof.Machine

/-- The offset column of 10_state.md Table 10-1. -/
def opFieldOffset : OpField → Nat
  | .ratioCoarse => 0x00
  | .ratioFine => 0x01
  | .keytrack => 0x02
  | .fixedInc => 0x03
  | .octave => 0x04
  | .waveform => 0x05
  | .startPhase => 0x06
  | .envDelay => 0x07
  | .envAttack => 0x08
  | .envHold => 0x09
  | .envDecay => 0x0A
  | .envSustain => 0x0B
  | .envRelease => 0x0C
  | .envAmp => 0x0D
  | .envRatioCoarse => 0x0E
  | .envRatioFine => 0x0F
  | .lfoInc => 0x10
  | .lfoShape => 0x11
  | .lfoRetrig => 0x12
  | .lfoRatioCoarse => 0x13
  | .lfoRatioFine => 0x14

/-- The row of 10_state.md Table 10-1 at an offset; offsets 0x15 to 0x1F are unknown (R25). -/
def opFieldOf : Nat → Option OpField
  | 0x00 => some .ratioCoarse
  | 0x01 => some .ratioFine
  | 0x02 => some .keytrack
  | 0x03 => some .fixedInc
  | 0x04 => some .octave
  | 0x05 => some .waveform
  | 0x06 => some .startPhase
  | 0x07 => some .envDelay
  | 0x08 => some .envAttack
  | 0x09 => some .envHold
  | 0x0A => some .envDecay
  | 0x0B => some .envSustain
  | 0x0C => some .envRelease
  | 0x0D => some .envAmp
  | 0x0E => some .envRatioCoarse
  | 0x0F => some .envRatioFine
  | 0x10 => some .lfoInc
  | 0x11 => some .lfoShape
  | 0x12 => some .lfoRetrig
  | 0x13 => some .lfoRatioCoarse
  | 0x14 => some .lfoRatioFine
  | _ => none

/-- The offset column of 10_state.md Table 10-2. -/
def edgeFieldOffset : EdgeField → Nat
  | .depth => 0
  | .enable => 1
  | .mode => 2

/-- The row of 10_state.md Table 10-2 at an offset; offset 3 is unknown (R27). -/
def edgeFieldOf : Nat → Option EdgeField
  | 0 => some .depth
  | 1 => some .enable
  | 2 => some .mode
  | _ => none

/-- LEVEL at the even id of a mixer slot, ENABLE at the odd one (10_state.md R28). -/
def mixFieldOffset : MixField → Nat
  | .level => 0
  | .enable => 1

/-- The mixer parameter at offset `id & 1` (20_memory.md R65). -/
def mixFieldOf : Nat → MixField
  | 0 => .level
  | _ => .enable

/-- The id of a parameter: base + stride (10_state.md R25 to R28). -/
def paramId : ParamName → Nat
  | .op i f => 0x0100 + 0x20 * i.val + opFieldOffset f
  | .fb i => 0x0400 + i.val
  | .edge k f => 0x0500 + 4 * k.val + edgeFieldOffset f
  | .mix i f => 0x0600 + 2 * i.val + mixFieldOffset f
  | .master => 0x0700

/-- The id of STATUS (10_state.md R29). -/
def statusId : Nat := 0x0F00

/-- The id of CONFIG (10_state.md R30). -/
def configId : Nat := 0x0F01

/-- The decode column of 20_memory.md R65; none for an unknown id. -/
def lookupId (id : Nat) : Option Target :=
  if 0x0100 ≤ id ∧ id ≤ 0x01BF then
    (opFieldOf (id % 0x20)).map fun f => .param (.op (Fin.ofNat 6 ((id - 0x0100) / 0x20)) f)
  else if 0x0400 ≤ id ∧ id ≤ 0x0405 then
    some (.param (.fb (Fin.ofNat 6 (id - 0x0400))))
  else if 0x0500 ≤ id ∧ id ≤ 0x053B then
    (edgeFieldOf (id % 4)).map fun f => .param (.edge (Fin.ofNat 15 ((id - 0x0500) / 4)) f)
  else if 0x0600 ≤ id ∧ id ≤ 0x060B then
    some (.param (.mix (Fin.ofNat 6 ((id - 0x0600) / 2)) (mixFieldOf (id % 2))))
  else if id = 0x0700 then
    some (.param .master)
  else if id = statusId then
    some .status
  else if id = configId then
    some .config
  else
    none

/-- `known(id)` of 46_param_commands.md. -/
def known (id : Nat) : Bool := (lookupId id).isSome

/-- The access kinds of 10_state.md R24. -/
inductive Access where
  | rw | ro | w1c
deriving DecidableEq, Repr

/-- `access(id)` (10_state.md R24, R29, R30). -/
def access : Target → Access
  | .param _ => .rw
  | .status => .w1c
  | .config => .ro

/-- A row of 10_state.md Tables 10-1, 10-2 and 10-4: the columns signed, min, max and reset. -/
structure ParamRow where
  signed : Bool
  min : Int
  max : Int
  reset : Int
deriving DecidableEq, Repr

/-- The range of the envelope durations: 24 bits (10_state.md Table 10-1, TIME_BITS of 00_scope.md R5). -/
def durationRow : ParamRow := ⟨false, 0, 2 ^ 24 - 1, 0⟩

/-- The rows of 10_state.md Table 10-1 (signed, min, max, reset); `numWaves` is NUM_WAVES. -/
def opRow (numWaves : Nat) : OpField → ParamRow
  | .ratioCoarse => ⟨false, 0, 255, 1⟩
  | .ratioFine => ⟨true, -65535, 65535, 0⟩
  | .keytrack => ⟨false, 0, 1, 1⟩
  | .fixedInc => ⟨false, 0, 2 ^ 32 - 1, 0⟩
  | .octave => ⟨true, -4, 4, 0⟩
  | .waveform => ⟨false, 0, numWaves - 1, 0⟩
  | .startPhase => ⟨false, 0, 2 ^ 32 - 1, 0⟩
  | .envDelay => durationRow
  | .envAttack => durationRow
  | .envHold => durationRow
  | .envDecay => durationRow
  | .envSustain => ⟨false, 0, 32768, 32768⟩
  | .envRelease => durationRow
  | .envAmp => ⟨false, 0, 1, 1⟩
  | .envRatioCoarse => ⟨true, -8, 8, 0⟩
  | .envRatioFine => ⟨true, -4095, 4095, 0⟩
  | .lfoInc => ⟨false, 0, 2 ^ 32 - 1, 0⟩
  | .lfoShape => ⟨false, 0, numWaves - 1, 0⟩
  | .lfoRetrig => ⟨false, 0, 1, 0⟩
  | .lfoRatioCoarse => ⟨true, -8, 8, 0⟩
  | .lfoRatioFine => ⟨true, -4095, 4095, 0⟩

/-- The rows of 10_state.md Table 10-2. -/
def edgeRow : EdgeField → ParamRow
  | .depth => ⟨true, -16384, 16384, 0⟩
  | .enable => ⟨false, 0, 1, 0⟩
  | .mode => ⟨false, 0, 1, 0⟩

/-- The mixer rows of 10_state.md Table 10-4: slot 0 is enabled at unit level after reset, the others are off. -/
def mixRow (i : OpIx) : MixField → ParamRow
  | .level => ⟨false, 0, 16384, if i.val = 0 then 16384 else 0⟩
  | .enable => ⟨false, 0, 1, if i.val = 0 then 1 else 0⟩

/-- Signedness, range and reset value of every stored parameter (10_state.md Tables 10-1, 10-2, 10-4, R26). -/
def paramRow (numWaves : Nat) : ParamName → ParamRow
  | .op _ f => opRow numWaves f
  | .fb _ => ⟨true, -16384, 16384, 0⟩
  | .edge _ f => edgeRow f
  | .mix i f => mixRow i f
  | .master => ⟨false, 0, 16384, 16384⟩

end Sys2Proof.Machine
end

