-- ==== Sys2Proof/Machine/Tables.lean ====
section
/-! DEFINITION. The reference contents of the configuration tables (40_operator.md R103, R104; 44_lut_mixer.md R166;
93_implementation_defined.md K1, K4) and the test configuration of 95_test_vectors.md. No rule rests on these contents:
every table is an argument of the model. PRESUMED: the entries between the spec's listed reference values were computed
outside Lean from the spec's formulas (notes/assumptions/2.md). -/

namespace Sys2Proof.Machine

/-- The reference sine at 0 to 63. -/
def sineQuarter0 : List Nat :=
  [
   0, 201, 402, 603, 804, 1005, 1206, 1407, 1608, 1809, 2009, 2210, 2410, 2611, 2811, 3012,
   3212, 3412, 3612, 3811, 4011, 4210, 4410, 4609, 4808, 5007, 5205, 5404, 5602, 5800, 5998, 6195,
   6393, 6590, 6786, 6983, 7179, 7375, 7571, 7767, 7962, 8157, 8351, 8545, 8739, 8933, 9126, 9319,
   9512, 9704, 9896, 10087, 10278, 10469, 10659, 10849, 11039, 11228, 11417, 11605, 11793, 11980, 12167, 12353]

/-- The reference sine at 64 to 127. -/
def sineQuarter1 : List Nat :=
  [
   12539, 12725, 12910, 13094, 13279, 13462, 13645, 13828, 14010, 14191, 14372, 14553, 14732, 14912, 15090, 15269,
   15446, 15623, 15800, 15976, 16151, 16325, 16499, 16673, 16846, 17018, 17189, 17360, 17530, 17700, 17869, 18037,
   18204, 18371, 18537, 18703, 18868, 19032, 19195, 19357, 19519, 19680, 19841, 20000, 20159, 20317, 20475, 20631,
   20787, 20942, 21096, 21250, 21403, 21554, 21705, 21856, 22005, 22154, 22301, 22448, 22594, 22739, 22884, 23027]

/-- The reference sine at 128 to 191. -/
def sineQuarter2 : List Nat :=
  [
   23170, 23311, 23452, 23592, 23731, 23870, 24007, 24143, 24279, 24413, 24547, 24680, 24811, 24942, 25072, 25201,
   25329, 25456, 25582, 25708, 25832, 25955, 26077, 26198, 26319, 26438, 26556, 26674, 26790, 26905, 27019, 27133,
   27245, 27356, 27466, 27575, 27683, 27790, 27896, 28001, 28105, 28208, 28310, 28411, 28510, 28609, 28706, 28803,
   28898, 28992, 29085, 29177, 29268, 29358, 29447, 29534, 29621, 29706, 29791, 29874, 29956, 30037, 30117, 30195]

/-- The reference sine at 192 to 255. -/
def sineQuarter3 : List Nat :=
  [
   30273, 30349, 30424, 30498, 30571, 30643, 30714, 30783, 30852, 30919, 30985, 31050, 31113, 31176, 31237, 31297,
   31356, 31414, 31470, 31526, 31580, 31633, 31685, 31736, 31785, 31833, 31880, 31926, 31971, 32014, 32057, 32098,
   32137, 32176, 32213, 32250, 32285, 32318, 32351, 32382, 32412, 32441, 32469, 32495, 32521, 32545, 32567, 32589,
   32609, 32628, 32646, 32663, 32678, 32692, 32705, 32717, 32728, 32737, 32745, 32752, 32757, 32761, 32765, 32766]

/-- The reference EXP2_FRAC at 0 to 63. -/
def exp2Part0 : List Nat :=
  [
   65536, 65547, 65558, 65569, 65580, 65591, 65603, 65614, 65625, 65636, 65647, 65658, 65669, 65680, 65691, 65703,
   65714, 65725, 65736, 65747, 65758, 65769, 65780, 65792, 65803, 65814, 65825, 65836, 65847, 65858, 65870, 65881,
   65892, 65903, 65914, 65925, 65936, 65948, 65959, 65970, 65981, 65992, 66003, 66015, 66026, 66037, 66048, 66059,
   66071, 66082, 66093, 66104, 66115, 66126, 66138, 66149, 66160, 66171, 66182, 66194, 66205, 66216, 66227, 66238]

/-- The reference EXP2_FRAC at 64 to 127. -/
def exp2Part1 : List Nat :=
  [
   66250, 66261, 66272, 66283, 66294, 66306, 66317, 66328, 66339, 66351, 66362, 66373, 66384, 66396, 66407, 66418,
   66429, 66441, 66452, 66463, 66474, 66485, 66497, 66508, 66519, 66531, 66542, 66553, 66564, 66576, 66587, 66598,
   66609, 66621, 66632, 66643, 66654, 66666, 66677, 66688, 66700, 66711, 66722, 66733, 66745, 66756, 66767, 66779,
   66790, 66801, 66813, 66824, 66835, 66847, 66858, 66869, 66880, 66892, 66903, 66914, 66926, 66937, 66948, 66960]

/-- The reference EXP2_FRAC at 128 to 191. -/
def exp2Part2 : List Nat :=
  [
   66971, 66982, 66994, 67005, 67016, 67028, 67039, 67050, 67062, 67073, 67084, 67096, 67107, 67119, 67130, 67141,
   67153, 67164, 67175, 67187, 67198, 67209, 67221, 67232, 67244, 67255, 67266, 67278, 67289, 67301, 67312, 67323,
   67335, 67346, 67357, 67369, 67380, 67392, 67403, 67415, 67426, 67437, 67449, 67460, 67472, 67483, 67494, 67506,
   67517, 67529, 67540, 67552, 67563, 67574, 67586, 67597, 67609, 67620, 67632, 67643, 67655, 67666, 67677, 67689]

/-- The reference EXP2_FRAC at 192 to 255. -/
def exp2Part3 : List Nat :=
  [
   67700, 67712, 67723, 67735, 67746, 67758, 67769, 67781, 67792, 67804, 67815, 67826, 67838, 67849, 67861, 67872,
   67884, 67895, 67907, 67918, 67930, 67941, 67953, 67964, 67976, 67987, 67999, 68010, 68022, 68033, 68045, 68056,
   68068, 68079, 68091, 68102, 68114, 68126, 68137, 68149, 68160, 68172, 68183, 68195, 68206, 68218, 68229, 68241,
   68252, 68264, 68276, 68287, 68299, 68310, 68322, 68333, 68345, 68357, 68368, 68380, 68391, 68403, 68414, 68426]

/-- The reference EXP2_FRAC at 256 to 319. -/
def exp2Part4 : List Nat :=
  [
   68438, 68449, 68461, 68472, 68484, 68495, 68507, 68519, 68530, 68542, 68553, 68565, 68577, 68588, 68600, 68611,
   68623, 68635, 68646, 68658, 68670, 68681, 68693, 68704, 68716, 68728, 68739, 68751, 68763, 68774, 68786, 68797,
   68809, 68821, 68832, 68844, 68856, 68867, 68879, 68891, 68902, 68914, 68926, 68937, 68949, 68961, 68972, 68984,
   68996, 69007, 69019, 69031, 69042, 69054, 69066, 69077, 69089, 69101, 69113, 69124, 69136, 69148, 69159, 69171]

/-- The reference EXP2_FRAC at 320 to 383. -/
def exp2Part5 : List Nat :=
  [
   69183, 69194, 69206, 69218, 69230, 69241, 69253, 69265, 69276, 69288, 69300, 69312, 69323, 69335, 69347, 69359,
   69370, 69382, 69394, 69406, 69417, 69429, 69441, 69453, 69464, 69476, 69488, 69500, 69511, 69523, 69535, 69547,
   69558, 69570, 69582, 69594, 69606, 69617, 69629, 69641, 69653, 69664, 69676, 69688, 69700, 69712, 69723, 69735,
   69747, 69759, 69771, 69782, 69794, 69806, 69818, 69830, 69841, 69853, 69865, 69877, 69889, 69901, 69912, 69924]

/-- The reference EXP2_FRAC at 384 to 447. -/
def exp2Part6 : List Nat :=
  [
   69936, 69948, 69960, 69972, 69983, 69995, 70007, 70019, 70031, 70043, 70055, 70066, 70078, 70090, 70102, 70114,
   70126, 70138, 70149, 70161, 70173, 70185, 70197, 70209, 70221, 70233, 70245, 70256, 70268, 70280, 70292, 70304,
   70316, 70328, 70340, 70352, 70363, 70375, 70387, 70399, 70411, 70423, 70435, 70447, 70459, 70471, 70483, 70495,
   70507, 70518, 70530, 70542, 70554, 70566, 70578, 70590, 70602, 70614, 70626, 70638, 70650, 70662, 70674, 70686]

/-- The reference EXP2_FRAC at 448 to 511. -/
def exp2Part7 : List Nat :=
  [
   70698, 70710, 70722, 70734, 70746, 70758, 70769, 70781, 70793, 70805, 70817, 70829, 70841, 70853, 70865, 70877,
   70889, 70901, 70913, 70925, 70937, 70949, 70961, 70973, 70985, 70997, 71009, 71021, 71033, 71045, 71057, 71070,
   71082, 71094, 71106, 71118, 71130, 71142, 71154, 71166, 71178, 71190, 71202, 71214, 71226, 71238, 71250, 71262,
   71274, 71286, 71298, 71310, 71323, 71335, 71347, 71359, 71371, 71383, 71395, 71407, 71419, 71431, 71443, 71455]

/-- The reference EXP2_FRAC at 512 to 575. -/
def exp2Part8 : List Nat :=
  [
   71468, 71480, 71492, 71504, 71516, 71528, 71540, 71552, 71564, 71576, 71589, 71601, 71613, 71625, 71637, 71649,
   71661, 71673, 71686, 71698, 71710, 71722, 71734, 71746, 71758, 71771, 71783, 71795, 71807, 71819, 71831, 71843,
   71856, 71868, 71880, 71892, 71904, 71916, 71929, 71941, 71953, 71965, 71977, 71989, 72002, 72014, 72026, 72038,
   72050, 72063, 72075, 72087, 72099, 72111, 72124, 72136, 72148, 72160, 72172, 72185, 72197, 72209, 72221, 72234]

/-- The reference EXP2_FRAC at 576 to 639. -/
def exp2Part9 : List Nat :=
  [
   72246, 72258, 72270, 72282, 72295, 72307, 72319, 72331, 72344, 72356, 72368, 72380, 72393, 72405, 72417, 72429,
   72442, 72454, 72466, 72478, 72491, 72503, 72515, 72527, 72540, 72552, 72564, 72577, 72589, 72601, 72613, 72626,
   72638, 72650, 72663, 72675, 72687, 72700, 72712, 72724, 72736, 72749, 72761, 72773, 72786, 72798, 72810, 72823,
   72835, 72847, 72860, 72872, 72884, 72897, 72909, 72921, 72934, 72946, 72958, 72971, 72983, 72995, 73008, 73020]

/-- The reference EXP2_FRAC at 640 to 703. -/
def exp2Part10 : List Nat :=
  [
   73032, 73045, 73057, 73070, 73082, 73094, 73107, 73119, 73131, 73144, 73156, 73169, 73181, 73193, 73206, 73218,
   73230, 73243, 73255, 73268, 73280, 73292, 73305, 73317, 73330, 73342, 73354, 73367, 73379, 73392, 73404, 73417,
   73429, 73441, 73454, 73466, 73479, 73491, 73504, 73516, 73528, 73541, 73553, 73566, 73578, 73591, 73603, 73616,
   73628, 73641, 73653, 73665, 73678, 73690, 73703, 73715, 73728, 73740, 73753, 73765, 73778, 73790, 73803, 73815]

/-- The reference EXP2_FRAC at 704 to 767. -/
def exp2Part11 : List Nat :=
  [
   73828, 73840, 73853, 73865, 73878, 73890, 73903, 73915, 73928, 73940, 73953, 73965, 73978, 73990, 74003, 74015,
   74028, 74040, 74053, 74065, 74078, 74091, 74103, 74116, 74128, 74141, 74153, 74166, 74178, 74191, 74203, 74216,
   74229, 74241, 74254, 74266, 74279, 74291, 74304, 74317, 74329, 74342, 74354, 74367, 74379, 74392, 74405, 74417,
   74430, 74442, 74455, 74468, 74480, 74493, 74505, 74518, 74531, 74543, 74556, 74569, 74581, 74594, 74606, 74619]

/-- The reference EXP2_FRAC at 768 to 831. -/
def exp2Part12 : List Nat :=
  [
   74632, 74644, 74657, 74670, 74682, 74695, 74707, 74720, 74733, 74745, 74758, 74771, 74783, 74796, 74809, 74821,
   74834, 74847, 74859, 74872, 74885, 74897, 74910, 74923, 74935, 74948, 74961, 74973, 74986, 74999, 75012, 75024,
   75037, 75050, 75062, 75075, 75088, 75100, 75113, 75126, 75139, 75151, 75164, 75177, 75189, 75202, 75215, 75228,
   75240, 75253, 75266, 75279, 75291, 75304, 75317, 75330, 75342, 75355, 75368, 75381, 75393, 75406, 75419, 75432]

/-- The reference EXP2_FRAC at 832 to 895. -/
def exp2Part13 : List Nat :=
  [
   75444, 75457, 75470, 75483, 75495, 75508, 75521, 75534, 75547, 75559, 75572, 75585, 75598, 75610, 75623, 75636,
   75649, 75662, 75674, 75687, 75700, 75713, 75726, 75739, 75751, 75764, 75777, 75790, 75803, 75815, 75828, 75841,
   75854, 75867, 75880, 75893, 75905, 75918, 75931, 75944, 75957, 75970, 75982, 75995, 76008, 76021, 76034, 76047,
   76060, 76073, 76085, 76098, 76111, 76124, 76137, 76150, 76163, 76176, 76188, 76201, 76214, 76227, 76240, 76253]

/-- The reference EXP2_FRAC at 896 to 959. -/
def exp2Part14 : List Nat :=
  [
   76266, 76279, 76292, 76305, 76318, 76330, 76343, 76356, 76369, 76382, 76395, 76408, 76421, 76434, 76447, 76460,
   76473, 76486, 76499, 76511, 76524, 76537, 76550, 76563, 76576, 76589, 76602, 76615, 76628, 76641, 76654, 76667,
   76680, 76693, 76706, 76719, 76732, 76745, 76758, 76771, 76784, 76797, 76810, 76823, 76836, 76849, 76862, 76875,
   76888, 76901, 76914, 76927, 76940, 76953, 76966, 76979, 76992, 77005, 77018, 77031, 77044, 77057, 77070, 77083]

/-- The reference EXP2_FRAC at 960 to 1023. -/
def exp2Part15 : List Nat :=
  [
   77096, 77109, 77122, 77136, 77149, 77162, 77175, 77188, 77201, 77214, 77227, 77240, 77253, 77266, 77279, 77292,
   77305, 77318, 77332, 77345, 77358, 77371, 77384, 77397, 77410, 77423, 77436, 77449, 77463, 77476, 77489, 77502,
   77515, 77528, 77541, 77554, 77567, 77581, 77594, 77607, 77620, 77633, 77646, 77659, 77673, 77686, 77699, 77712,
   77725, 77738, 77751, 77765, 77778, 77791, 77804, 77817, 77830, 77844, 77857, 77870, 77883, 77896, 77910, 77923]

/-- The reference EXP2_FRAC at 1024 to 1087. -/
def exp2Part16 : List Nat :=
  [
   77936, 77949, 77962, 77975, 77989, 78002, 78015, 78028, 78041, 78055, 78068, 78081, 78094, 78108, 78121, 78134,
   78147, 78160, 78174, 78187, 78200, 78213, 78227, 78240, 78253, 78266, 78280, 78293, 78306, 78319, 78333, 78346,
   78359, 78372, 78386, 78399, 78412, 78425, 78439, 78452, 78465, 78478, 78492, 78505, 78518, 78532, 78545, 78558,
   78572, 78585, 78598, 78611, 78625, 78638, 78651, 78665, 78678, 78691, 78705, 78718, 78731, 78745, 78758, 78771]

/-- The reference EXP2_FRAC at 1088 to 1151. -/
def exp2Part17 : List Nat :=
  [
   78785, 78798, 78811, 78825, 78838, 78851, 78865, 78878, 78891, 78905, 78918, 78931, 78945, 78958, 78971, 78985,
   78998, 79012, 79025, 79038, 79052, 79065, 79078, 79092, 79105, 79119, 79132, 79145, 79159, 79172, 79186, 79199,
   79212, 79226, 79239, 79253, 79266, 79279, 79293, 79306, 79320, 79333, 79346, 79360, 79373, 79387, 79400, 79414,
   79427, 79441, 79454, 79467, 79481, 79494, 79508, 79521, 79535, 79548, 79562, 79575, 79589, 79602, 79616, 79629]

/-- The reference EXP2_FRAC at 1152 to 1215. -/
def exp2Part18 : List Nat :=
  [
   79642, 79656, 79669, 79683, 79696, 79710, 79723, 79737, 79750, 79764, 79777, 79791, 79804, 79818, 79831, 79845,
   79858, 79872, 79885, 79899, 79912, 79926, 79940, 79953, 79967, 79980, 79994, 80007, 80021, 80034, 80048, 80061,
   80075, 80088, 80102, 80116, 80129, 80143, 80156, 80170, 80183, 80197, 80211, 80224, 80238, 80251, 80265, 80278,
   80292, 80306, 80319, 80333, 80346, 80360, 80374, 80387, 80401, 80414, 80428, 80442, 80455, 80469, 80482, 80496]

/-- The reference EXP2_FRAC at 1216 to 1279. -/
def exp2Part19 : List Nat :=
  [
   80510, 80523, 80537, 80551, 80564, 80578, 80591, 80605, 80619, 80632, 80646, 80660, 80673, 80687, 80701, 80714,
   80728, 80742, 80755, 80769, 80783, 80796, 80810, 80824, 80837, 80851, 80865, 80878, 80892, 80906, 80919, 80933,
   80947, 80961, 80974, 80988, 81002, 81015, 81029, 81043, 81057, 81070, 81084, 81098, 81111, 81125, 81139, 81153,
   81166, 81180, 81194, 81208, 81221, 81235, 81249, 81263, 81276, 81290, 81304, 81318, 81331, 81345, 81359, 81373]

/-- The reference EXP2_FRAC at 1280 to 1343. -/
def exp2Part20 : List Nat :=
  [
   81386, 81400, 81414, 81428, 81442, 81455, 81469, 81483, 81497, 81510, 81524, 81538, 81552, 81566, 81579, 81593,
   81607, 81621, 81635, 81648, 81662, 81676, 81690, 81704, 81718, 81731, 81745, 81759, 81773, 81787, 81801, 81814,
   81828, 81842, 81856, 81870, 81884, 81898, 81911, 81925, 81939, 81953, 81967, 81981, 81995, 82009, 82022, 82036,
   82050, 82064, 82078, 82092, 82106, 82120, 82134, 82147, 82161, 82175, 82189, 82203, 82217, 82231, 82245, 82259]

/-- The reference EXP2_FRAC at 1344 to 1407. -/
def exp2Part21 : List Nat :=
  [
   82273, 82287, 82300, 82314, 82328, 82342, 82356, 82370, 82384, 82398, 82412, 82426, 82440, 82454, 82468, 82482,
   82496, 82510, 82524, 82538, 82552, 82566, 82580, 82593, 82607, 82621, 82635, 82649, 82663, 82677, 82691, 82705,
   82719, 82733, 82747, 82761, 82775, 82789, 82803, 82817, 82831, 82845, 82859, 82873, 82888, 82902, 82916, 82930,
   82944, 82958, 82972, 82986, 83000, 83014, 83028, 83042, 83056, 83070, 83084, 83098, 83112, 83126, 83140, 83154]

/-- The reference EXP2_FRAC at 1408 to 1471. -/
def exp2Part22 : List Nat :=
  [
   83169, 83183, 83197, 83211, 83225, 83239, 83253, 83267, 83281, 83295, 83309, 83323, 83338, 83352, 83366, 83380,
   83394, 83408, 83422, 83436, 83450, 83465, 83479, 83493, 83507, 83521, 83535, 83549, 83564, 83578, 83592, 83606,
   83620, 83634, 83648, 83663, 83677, 83691, 83705, 83719, 83733, 83748, 83762, 83776, 83790, 83804, 83818, 83833,
   83847, 83861, 83875, 83889, 83904, 83918, 83932, 83946, 83960, 83975, 83989, 84003, 84017, 84031, 84046, 84060]

/-- The reference EXP2_FRAC at 1472 to 1535. -/
def exp2Part23 : List Nat :=
  [
   84074, 84088, 84103, 84117, 84131, 84145, 84160, 84174, 84188, 84202, 84217, 84231, 84245, 84259, 84274, 84288,
   84302, 84316, 84331, 84345, 84359, 84373, 84388, 84402, 84416, 84431, 84445, 84459, 84473, 84488, 84502, 84516,
   84531, 84545, 84559, 84574, 84588, 84602, 84617, 84631, 84645, 84660, 84674, 84688, 84703, 84717, 84731, 84746,
   84760, 84774, 84789, 84803, 84817, 84832, 84846, 84860, 84875, 84889, 84903, 84918, 84932, 84947, 84961, 84975]

/-- The reference EXP2_FRAC at 1536 to 1599. -/
def exp2Part24 : List Nat :=
  [
   84990, 85004, 85018, 85033, 85047, 85062, 85076, 85090, 85105, 85119, 85134, 85148, 85162, 85177, 85191, 85206,
   85220, 85235, 85249, 85263, 85278, 85292, 85307, 85321, 85336, 85350, 85364, 85379, 85393, 85408, 85422, 85437,
   85451, 85466, 85480, 85495, 85509, 85523, 85538, 85552, 85567, 85581, 85596, 85610, 85625, 85639, 85654, 85668,
   85683, 85697, 85712, 85726, 85741, 85755, 85770, 85784, 85799, 85813, 85828, 85842, 85857, 85872, 85886, 85901]

/-- The reference EXP2_FRAC at 1600 to 1663. -/
def exp2Part25 : List Nat :=
  [
   85915, 85930, 85944, 85959, 85973, 85988, 86002, 86017, 86032, 86046, 86061, 86075, 86090, 86104, 86119, 86134,
   86148, 86163, 86177, 86192, 86206, 86221, 86236, 86250, 86265, 86279, 86294, 86309, 86323, 86338, 86352, 86367,
   86382, 86396, 86411, 86426, 86440, 86455, 86469, 86484, 86499, 86513, 86528, 86543, 86557, 86572, 86587, 86601,
   86616, 86631, 86645, 86660, 86675, 86689, 86704, 86719, 86733, 86748, 86763, 86777, 86792, 86807, 86821, 86836]

/-- The reference EXP2_FRAC at 1664 to 1727. -/
def exp2Part26 : List Nat :=
  [
   86851, 86865, 86880, 86895, 86910, 86924, 86939, 86954, 86968, 86983, 86998, 87013, 87027, 87042, 87057, 87071,
   87086, 87101, 87116, 87130, 87145, 87160, 87175, 87189, 87204, 87219, 87234, 87248, 87263, 87278, 87293, 87308,
   87322, 87337, 87352, 87367, 87381, 87396, 87411, 87426, 87441, 87455, 87470, 87485, 87500, 87515, 87529, 87544,
   87559, 87574, 87589, 87604, 87618, 87633, 87648, 87663, 87678, 87693, 87707, 87722, 87737, 87752, 87767, 87782]

/-- The reference EXP2_FRAC at 1728 to 1791. -/
def exp2Part27 : List Nat :=
  [
   87796, 87811, 87826, 87841, 87856, 87871, 87886, 87901, 87915, 87930, 87945, 87960, 87975, 87990, 88005, 88020,
   88034, 88049, 88064, 88079, 88094, 88109, 88124, 88139, 88154, 88169, 88184, 88199, 88213, 88228, 88243, 88258,
   88273, 88288, 88303, 88318, 88333, 88348, 88363, 88378, 88393, 88408, 88423, 88438, 88453, 88468, 88483, 88498,
   88513, 88527, 88542, 88557, 88572, 88587, 88602, 88617, 88632, 88647, 88662, 88677, 88692, 88707, 88722, 88737]

/-- The reference EXP2_FRAC at 1792 to 1855. -/
def exp2Part28 : List Nat :=
  [
   88752, 88768, 88783, 88798, 88813, 88828, 88843, 88858, 88873, 88888, 88903, 88918, 88933, 88948, 88963, 88978,
   88993, 89008, 89023, 89038, 89053, 89068, 89084, 89099, 89114, 89129, 89144, 89159, 89174, 89189, 89204, 89219,
   89234, 89250, 89265, 89280, 89295, 89310, 89325, 89340, 89355, 89370, 89386, 89401, 89416, 89431, 89446, 89461,
   89476, 89491, 89507, 89522, 89537, 89552, 89567, 89582, 89598, 89613, 89628, 89643, 89658, 89673, 89689, 89704]

/-- The reference EXP2_FRAC at 1856 to 1919. -/
def exp2Part29 : List Nat :=
  [
   89719, 89734, 89749, 89765, 89780, 89795, 89810, 89825, 89840, 89856, 89871, 89886, 89901, 89917, 89932, 89947,
   89962, 89977, 89993, 90008, 90023, 90038, 90054, 90069, 90084, 90099, 90115, 90130, 90145, 90160, 90176, 90191,
   90206, 90221, 90237, 90252, 90267, 90282, 90298, 90313, 90328, 90344, 90359, 90374, 90389, 90405, 90420, 90435,
   90451, 90466, 90481, 90497, 90512, 90527, 90543, 90558, 90573, 90589, 90604, 90619, 90635, 90650, 90665, 90681]

/-- The reference EXP2_FRAC at 1920 to 1983. -/
def exp2Part30 : List Nat :=
  [
   90696, 90711, 90727, 90742, 90757, 90773, 90788, 90803, 90819, 90834, 90850, 90865, 90880, 90896, 90911, 90926,
   90942, 90957, 90973, 90988, 91003, 91019, 91034, 91050, 91065, 91080, 91096, 91111, 91127, 91142, 91158, 91173,
   91188, 91204, 91219, 91235, 91250, 91266, 91281, 91296, 91312, 91327, 91343, 91358, 91374, 91389, 91405, 91420,
   91436, 91451, 91467, 91482, 91498, 91513, 91529, 91544, 91559, 91575, 91590, 91606, 91621, 91637, 91653, 91668]

/-- The reference EXP2_FRAC at 1984 to 2047. -/
def exp2Part31 : List Nat :=
  [
   91684, 91699, 91715, 91730, 91746, 91761, 91777, 91792, 91808, 91823, 91839, 91854, 91870, 91885, 91901, 91917,
   91932, 91948, 91963, 91979, 91994, 92010, 92026, 92041, 92057, 92072, 92088, 92103, 92119, 92135, 92150, 92166,
   92181, 92197, 92213, 92228, 92244, 92259, 92275, 92291, 92306, 92322, 92337, 92353, 92369, 92384, 92400, 92416,
   92431, 92447, 92463, 92478, 92494, 92510, 92525, 92541, 92557, 92572, 92588, 92604, 92619, 92635, 92651, 92666]

/-- The reference EXP2_FRAC at 2048 to 2111. -/
def exp2Part32 : List Nat :=
  [
   92682, 92698, 92713, 92729, 92745, 92760, 92776, 92792, 92807, 92823, 92839, 92855, 92870, 92886, 92902, 92917,
   92933, 92949, 92965, 92980, 92996, 93012, 93028, 93043, 93059, 93075, 93091, 93106, 93122, 93138, 93154, 93169,
   93185, 93201, 93217, 93232, 93248, 93264, 93280, 93296, 93311, 93327, 93343, 93359, 93375, 93390, 93406, 93422,
   93438, 93454, 93469, 93485, 93501, 93517, 93533, 93549, 93564, 93580, 93596, 93612, 93628, 93644, 93659, 93675]

/-- The reference EXP2_FRAC at 2112 to 2175. -/
def exp2Part33 : List Nat :=
  [
   93691, 93707, 93723, 93739, 93755, 93770, 93786, 93802, 93818, 93834, 93850, 93866, 93882, 93897, 93913, 93929,
   93945, 93961, 93977, 93993, 94009, 94025, 94041, 94057, 94072, 94088, 94104, 94120, 94136, 94152, 94168, 94184,
   94200, 94216, 94232, 94248, 94264, 94280, 94296, 94312, 94327, 94343, 94359, 94375, 94391, 94407, 94423, 94439,
   94455, 94471, 94487, 94503, 94519, 94535, 94551, 94567, 94583, 94599, 94615, 94631, 94647, 94663, 94679, 94695]

/-- The reference EXP2_FRAC at 2176 to 2239. -/
def exp2Part34 : List Nat :=
  [
   94711, 94727, 94743, 94759, 94776, 94792, 94808, 94824, 94840, 94856, 94872, 94888, 94904, 94920, 94936, 94952,
   94968, 94984, 95000, 95016, 95032, 95049, 95065, 95081, 95097, 95113, 95129, 95145, 95161, 95177, 95193, 95210,
   95226, 95242, 95258, 95274, 95290, 95306, 95322, 95339, 95355, 95371, 95387, 95403, 95419, 95435, 95452, 95468,
   95484, 95500, 95516, 95532, 95548, 95565, 95581, 95597, 95613, 95629, 95646, 95662, 95678, 95694, 95710, 95727]

/-- The reference EXP2_FRAC at 2240 to 2303. -/
def exp2Part35 : List Nat :=
  [
   95743, 95759, 95775, 95791, 95808, 95824, 95840, 95856, 95872, 95889, 95905, 95921, 95937, 95954, 95970, 95986,
   96002, 96019, 96035, 96051, 96067, 96084, 96100, 96116, 96132, 96149, 96165, 96181, 96197, 96214, 96230, 96246,
   96263, 96279, 96295, 96311, 96328, 96344, 96360, 96377, 96393, 96409, 96426, 96442, 96458, 96475, 96491, 96507,
   96524, 96540, 96556, 96573, 96589, 96605, 96622, 96638, 96654, 96671, 96687, 96703, 96720, 96736, 96753, 96769]

/-- The reference EXP2_FRAC at 2304 to 2367. -/
def exp2Part36 : List Nat :=
  [
   96785, 96802, 96818, 96834, 96851, 96867, 96884, 96900, 96916, 96933, 96949, 96966, 96982, 96998, 97015, 97031,
   97048, 97064, 97081, 97097, 97113, 97130, 97146, 97163, 97179, 97196, 97212, 97229, 97245, 97261, 97278, 97294,
   97311, 97327, 97344, 97360, 97377, 97393, 97410, 97426, 97443, 97459, 97476, 97492, 97509, 97525, 97542, 97558,
   97575, 97591, 97608, 97624, 97641, 97657, 97674, 97690, 97707, 97723, 97740, 97756, 97773, 97790, 97806, 97823]

/-- The reference EXP2_FRAC at 2368 to 2431. -/
def exp2Part37 : List Nat :=
  [
   97839, 97856, 97872, 97889, 97905, 97922, 97939, 97955, 97972, 97988, 98005, 98021, 98038, 98055, 98071, 98088,
   98104, 98121, 98138, 98154, 98171, 98188, 98204, 98221, 98237, 98254, 98271, 98287, 98304, 98321, 98337, 98354,
   98370, 98387, 98404, 98420, 98437, 98454, 98470, 98487, 98504, 98520, 98537, 98554, 98570, 98587, 98604, 98620,
   98637, 98654, 98671, 98687, 98704, 98721, 98737, 98754, 98771, 98788, 98804, 98821, 98838, 98854, 98871, 98888]

/-- The reference EXP2_FRAC at 2432 to 2495. -/
def exp2Part38 : List Nat :=
  [
   98905, 98921, 98938, 98955, 98972, 98988, 99005, 99022, 99039, 99055, 99072, 99089, 99106, 99122, 99139, 99156,
   99173, 99190, 99206, 99223, 99240, 99257, 99274, 99290, 99307, 99324, 99341, 99358, 99374, 99391, 99408, 99425,
   99442, 99458, 99475, 99492, 99509, 99526, 99543, 99560, 99576, 99593, 99610, 99627, 99644, 99661, 99678, 99694,
   99711, 99728, 99745, 99762, 99779, 99796, 99813, 99829, 99846, 99863, 99880, 99897, 99914, 99931, 99948, 99965]

/-- The reference EXP2_FRAC at 2496 to 2559. -/
def exp2Part39 : List Nat :=
  [
   99982, 99999, 100015, 100032, 100049, 100066, 100083, 100100, 100117, 100134, 100151, 100168, 100185, 100202, 100219, 100236,
   100253, 100270, 100287, 100304, 100321, 100338, 100355, 100372, 100388, 100405, 100422, 100439, 100456, 100473, 100490, 100507,
   100524, 100542, 100559, 100576, 100593, 100610, 100627, 100644, 100661, 100678, 100695, 100712, 100729, 100746, 100763, 100780,
   100797, 100814, 100831, 100848, 100865, 100882, 100899, 100917, 100934, 100951, 100968, 100985, 101002, 101019, 101036, 101053]

/-- The reference EXP2_FRAC at 2560 to 2623. -/
def exp2Part40 : List Nat :=
  [
   101070, 101087, 101105, 101122, 101139, 101156, 101173, 101190, 101207, 101224, 101242, 101259, 101276, 101293, 101310, 101327,
   101344, 101362, 101379, 101396, 101413, 101430, 101447, 101464, 101482, 101499, 101516, 101533, 101550, 101568, 101585, 101602,
   101619, 101636, 101654, 101671, 101688, 101705, 101722, 101740, 101757, 101774, 101791, 101808, 101826, 101843, 101860, 101877,
   101895, 101912, 101929, 101946, 101964, 101981, 101998, 102015, 102033, 102050, 102067, 102084, 102102, 102119, 102136, 102154]

/-- The reference EXP2_FRAC at 2624 to 2687. -/
def exp2Part41 : List Nat :=
  [
   102171, 102188, 102205, 102223, 102240, 102257, 102275, 102292, 102309, 102327, 102344, 102361, 102379, 102396, 102413, 102431,
   102448, 102465, 102483, 102500, 102517, 102535, 102552, 102569, 102587, 102604, 102621, 102639, 102656, 102674, 102691, 102708,
   102726, 102743, 102760, 102778, 102795, 102813, 102830, 102847, 102865, 102882, 102900, 102917, 102935, 102952, 102969, 102987,
   103004, 103022, 103039, 103057, 103074, 103091, 103109, 103126, 103144, 103161, 103179, 103196, 103214, 103231, 103249, 103266]

/-- The reference EXP2_FRAC at 2688 to 2751. -/
def exp2Part42 : List Nat :=
  [
   103283, 103301, 103318, 103336, 103353, 103371, 103388, 103406, 103423, 103441, 103458, 103476, 103493, 103511, 103528, 103546,
   103564, 103581, 103599, 103616, 103634, 103651, 103669, 103686, 103704, 103721, 103739, 103756, 103774, 103792, 103809, 103827,
   103844, 103862, 103879, 103897, 103915, 103932, 103950, 103967, 103985, 104003, 104020, 104038, 104055, 104073, 104091, 104108,
   104126, 104143, 104161, 104179, 104196, 104214, 104232, 104249, 104267, 104285, 104302, 104320, 104338, 104355, 104373, 104390]

/-- The reference EXP2_FRAC at 2752 to 2815. -/
def exp2Part43 : List Nat :=
  [
   104408, 104426, 104444, 104461, 104479, 104497, 104514, 104532, 104550, 104567, 104585, 104603, 104620, 104638, 104656, 104674,
   104691, 104709, 104727, 104744, 104762, 104780, 104798, 104815, 104833, 104851, 104869, 104886, 104904, 104922, 104940, 104957,
   104975, 104993, 105011, 105028, 105046, 105064, 105082, 105100, 105117, 105135, 105153, 105171, 105188, 105206, 105224, 105242,
   105260, 105278, 105295, 105313, 105331, 105349, 105367, 105384, 105402, 105420, 105438, 105456, 105474, 105492, 105509, 105527]

/-- The reference EXP2_FRAC at 2816 to 2879. -/
def exp2Part44 : List Nat :=
  [
   105545, 105563, 105581, 105599, 105617, 105634, 105652, 105670, 105688, 105706, 105724, 105742, 105760, 105778, 105795, 105813,
   105831, 105849, 105867, 105885, 105903, 105921, 105939, 105957, 105975, 105993, 106011, 106028, 106046, 106064, 106082, 106100,
   106118, 106136, 106154, 106172, 106190, 106208, 106226, 106244, 106262, 106280, 106298, 106316, 106334, 106352, 106370, 106388,
   106406, 106424, 106442, 106460, 106478, 106496, 106514, 106532, 106550, 106568, 106586, 106604, 106622, 106640, 106658, 106676]

/-- The reference EXP2_FRAC at 2880 to 2943. -/
def exp2Part45 : List Nat :=
  [
   106694, 106712, 106731, 106749, 106767, 106785, 106803, 106821, 106839, 106857, 106875, 106893, 106911, 106929, 106947, 106966,
   106984, 107002, 107020, 107038, 107056, 107074, 107092, 107110, 107129, 107147, 107165, 107183, 107201, 107219, 107237, 107256,
   107274, 107292, 107310, 107328, 107346, 107365, 107383, 107401, 107419, 107437, 107455, 107474, 107492, 107510, 107528, 107546,
   107565, 107583, 107601, 107619, 107637, 107656, 107674, 107692, 107710, 107729, 107747, 107765, 107783, 107801, 107820, 107838]

/-- The reference EXP2_FRAC at 2944 to 3007. -/
def exp2Part46 : List Nat :=
  [
   107856, 107874, 107893, 107911, 107929, 107948, 107966, 107984, 108002, 108021, 108039, 108057, 108075, 108094, 108112, 108130,
   108149, 108167, 108185, 108204, 108222, 108240, 108259, 108277, 108295, 108313, 108332, 108350, 108369, 108387, 108405, 108424,
   108442, 108460, 108479, 108497, 108515, 108534, 108552, 108570, 108589, 108607, 108626, 108644, 108662, 108681, 108699, 108717,
   108736, 108754, 108773, 108791, 108810, 108828, 108846, 108865, 108883, 108902, 108920, 108938, 108957, 108975, 108994, 109012]

/-- The reference EXP2_FRAC at 3008 to 3071. -/
def exp2Part47 : List Nat :=
  [
   109031, 109049, 109068, 109086, 109105, 109123, 109141, 109160, 109178, 109197, 109215, 109234, 109252, 109271, 109289, 109308,
   109326, 109345, 109363, 109382, 109400, 109419, 109437, 109456, 109474, 109493, 109511, 109530, 109549, 109567, 109586, 109604,
   109623, 109641, 109660, 109678, 109697, 109716, 109734, 109753, 109771, 109790, 109808, 109827, 109846, 109864, 109883, 109901,
   109920, 109939, 109957, 109976, 109994, 110013, 110032, 110050, 110069, 110087, 110106, 110125, 110143, 110162, 110181, 110199]

/-- The reference EXP2_FRAC at 3072 to 3135. -/
def exp2Part48 : List Nat :=
  [
   110218, 110237, 110255, 110274, 110293, 110311, 110330, 110349, 110367, 110386, 110405, 110423, 110442, 110461, 110479, 110498,
   110517, 110536, 110554, 110573, 110592, 110610, 110629, 110648, 110667, 110685, 110704, 110723, 110741, 110760, 110779, 110798,
   110816, 110835, 110854, 110873, 110891, 110910, 110929, 110948, 110967, 110985, 111004, 111023, 111042, 111061, 111079, 111098,
   111117, 111136, 111155, 111173, 111192, 111211, 111230, 111249, 111267, 111286, 111305, 111324, 111343, 111362, 111380, 111399]

/-- The reference EXP2_FRAC at 3136 to 3199. -/
def exp2Part49 : List Nat :=
  [
   111418, 111437, 111456, 111475, 111494, 111512, 111531, 111550, 111569, 111588, 111607, 111626, 111645, 111664, 111682, 111701,
   111720, 111739, 111758, 111777, 111796, 111815, 111834, 111853, 111872, 111891, 111909, 111928, 111947, 111966, 111985, 112004,
   112023, 112042, 112061, 112080, 112099, 112118, 112137, 112156, 112175, 112194, 112213, 112232, 112251, 112270, 112289, 112308,
   112327, 112346, 112365, 112384, 112403, 112422, 112441, 112460, 112479, 112498, 112517, 112536, 112555, 112574, 112593, 112612]

/-- The reference EXP2_FRAC at 3200 to 3263. -/
def exp2Part50 : List Nat :=
  [
   112631, 112650, 112670, 112689, 112708, 112727, 112746, 112765, 112784, 112803, 112822, 112841, 112860, 112879, 112899, 112918,
   112937, 112956, 112975, 112994, 113013, 113032, 113052, 113071, 113090, 113109, 113128, 113147, 113166, 113186, 113205, 113224,
   113243, 113262, 113281, 113301, 113320, 113339, 113358, 113377, 113396, 113416, 113435, 113454, 113473, 113492, 113512, 113531,
   113550, 113569, 113588, 113608, 113627, 113646, 113665, 113685, 113704, 113723, 113742, 113762, 113781, 113800, 113819, 113839]

/-- The reference EXP2_FRAC at 3264 to 3327. -/
def exp2Part51 : List Nat :=
  [
   113858, 113877, 113896, 113916, 113935, 113954, 113974, 113993, 114012, 114031, 114051, 114070, 114089, 114109, 114128, 114147,
   114167, 114186, 114205, 114225, 114244, 114263, 114283, 114302, 114321, 114341, 114360, 114379, 114399, 114418, 114437, 114457,
   114476, 114496, 114515, 114534, 114554, 114573, 114592, 114612, 114631, 114651, 114670, 114689, 114709, 114728, 114748, 114767,
   114787, 114806, 114825, 114845, 114864, 114884, 114903, 114923, 114942, 114961, 114981, 115000, 115020, 115039, 115059, 115078]

/-- The reference EXP2_FRAC at 3328 to 3391. -/
def exp2Part52 : List Nat :=
  [
   115098, 115117, 115137, 115156, 115176, 115195, 115215, 115234, 115254, 115273, 115293, 115312, 115332, 115351, 115371, 115390,
   115410, 115429, 115449, 115468, 115488, 115507, 115527, 115547, 115566, 115586, 115605, 115625, 115644, 115664, 115684, 115703,
   115723, 115742, 115762, 115781, 115801, 115821, 115840, 115860, 115879, 115899, 115919, 115938, 115958, 115978, 115997, 116017,
   116036, 116056, 116076, 116095, 116115, 116135, 116154, 116174, 116194, 116213, 116233, 116253, 116272, 116292, 116312, 116331]

/-- The reference EXP2_FRAC at 3392 to 3455. -/
def exp2Part53 : List Nat :=
  [
   116351, 116371, 116390, 116410, 116430, 116450, 116469, 116489, 116509, 116528, 116548, 116568, 116588, 116607, 116627, 116647,
   116667, 116686, 116706, 116726, 116746, 116765, 116785, 116805, 116825, 116844, 116864, 116884, 116904, 116923, 116943, 116963,
   116983, 117003, 117022, 117042, 117062, 117082, 117102, 117122, 117141, 117161, 117181, 117201, 117221, 117240, 117260, 117280,
   117300, 117320, 117340, 117360, 117379, 117399, 117419, 117439, 117459, 117479, 117499, 117519, 117538, 117558, 117578, 117598]

/-- The reference EXP2_FRAC at 3456 to 3519. -/
def exp2Part54 : List Nat :=
  [
   117618, 117638, 117658, 117678, 117698, 117718, 117738, 117757, 117777, 117797, 117817, 117837, 117857, 117877, 117897, 117917,
   117937, 117957, 117977, 117997, 118017, 118037, 118057, 118077, 118097, 118117, 118137, 118157, 118177, 118197, 118217, 118237,
   118257, 118277, 118297, 118317, 118337, 118357, 118377, 118397, 118417, 118437, 118457, 118477, 118497, 118517, 118537, 118557,
   118577, 118597, 118617, 118638, 118658, 118678, 118698, 118718, 118738, 118758, 118778, 118798, 118818, 118838, 118859, 118879]

/-- The reference EXP2_FRAC at 3520 to 3583. -/
def exp2Part55 : List Nat :=
  [
   118899, 118919, 118939, 118959, 118979, 118999, 119020, 119040, 119060, 119080, 119100, 119120, 119141, 119161, 119181, 119201,
   119221, 119241, 119262, 119282, 119302, 119322, 119342, 119363, 119383, 119403, 119423, 119443, 119464, 119484, 119504, 119524,
   119544, 119565, 119585, 119605, 119625, 119646, 119666, 119686, 119706, 119727, 119747, 119767, 119787, 119808, 119828, 119848,
   119869, 119889, 119909, 119929, 119950, 119970, 119990, 120011, 120031, 120051, 120072, 120092, 120112, 120133, 120153, 120173]

/-- The reference EXP2_FRAC at 3584 to 3647. -/
def exp2Part56 : List Nat :=
  [
   120194, 120214, 120234, 120255, 120275, 120295, 120316, 120336, 120356, 120377, 120397, 120418, 120438, 120458, 120479, 120499,
   120519, 120540, 120560, 120581, 120601, 120621, 120642, 120662, 120683, 120703, 120724, 120744, 120764, 120785, 120805, 120826,
   120846, 120867, 120887, 120908, 120928, 120948, 120969, 120989, 121010, 121030, 121051, 121071, 121092, 121112, 121133, 121153,
   121174, 121194, 121215, 121235, 121256, 121276, 121297, 121317, 121338, 121359, 121379, 121400, 121420, 121441, 121461, 121482]

/-- The reference EXP2_FRAC at 3648 to 3711. -/
def exp2Part57 : List Nat :=
  [
   121502, 121523, 121544, 121564, 121585, 121605, 121626, 121646, 121667, 121688, 121708, 121729, 121749, 121770, 121791, 121811,
   121832, 121852, 121873, 121894, 121914, 121935, 121956, 121976, 121997, 122017, 122038, 122059, 122079, 122100, 122121, 122141,
   122162, 122183, 122203, 122224, 122245, 122266, 122286, 122307, 122328, 122348, 122369, 122390, 122410, 122431, 122452, 122473,
   122493, 122514, 122535, 122556, 122576, 122597, 122618, 122639, 122659, 122680, 122701, 122722, 122742, 122763, 122784, 122805]

/-- The reference EXP2_FRAC at 3712 to 3775. -/
def exp2Part58 : List Nat :=
  [
   122825, 122846, 122867, 122888, 122909, 122929, 122950, 122971, 122992, 123013, 123033, 123054, 123075, 123096, 123117, 123138,
   123158, 123179, 123200, 123221, 123242, 123263, 123284, 123304, 123325, 123346, 123367, 123388, 123409, 123430, 123451, 123471,
   123492, 123513, 123534, 123555, 123576, 123597, 123618, 123639, 123660, 123681, 123702, 123722, 123743, 123764, 123785, 123806,
   123827, 123848, 123869, 123890, 123911, 123932, 123953, 123974, 123995, 124016, 124037, 124058, 124079, 124100, 124121, 124142]

/-- The reference EXP2_FRAC at 3776 to 3839. -/
def exp2Part59 : List Nat :=
  [
   124163, 124184, 124205, 124226, 124247, 124268, 124289, 124310, 124331, 124352, 124373, 124394, 124415, 124436, 124457, 124479,
   124500, 124521, 124542, 124563, 124584, 124605, 124626, 124647, 124668, 124689, 124710, 124732, 124753, 124774, 124795, 124816,
   124837, 124858, 124879, 124901, 124922, 124943, 124964, 124985, 125006, 125027, 125049, 125070, 125091, 125112, 125133, 125154,
   125176, 125197, 125218, 125239, 125260, 125282, 125303, 125324, 125345, 125366, 125388, 125409, 125430, 125451, 125473, 125494]

/-- The reference EXP2_FRAC at 3840 to 3903. -/
def exp2Part60 : List Nat :=
  [
   125515, 125536, 125557, 125579, 125600, 125621, 125642, 125664, 125685, 125706, 125728, 125749, 125770, 125791, 125813, 125834,
   125855, 125877, 125898, 125919, 125941, 125962, 125983, 126004, 126026, 126047, 126068, 126090, 126111, 126132, 126154, 126175,
   126197, 126218, 126239, 126261, 126282, 126303, 126325, 126346, 126367, 126389, 126410, 126432, 126453, 126474, 126496, 126517,
   126539, 126560, 126581, 126603, 126624, 126646, 126667, 126689, 126710, 126732, 126753, 126774, 126796, 126817, 126839, 126860]

/-- The reference EXP2_FRAC at 3904 to 3967. -/
def exp2Part61 : List Nat :=
  [
   126882, 126903, 126925, 126946, 126968, 126989, 127011, 127032, 127054, 127075, 127097, 127118, 127140, 127161, 127183, 127204,
   127226, 127247, 127269, 127290, 127312, 127333, 127355, 127377, 127398, 127420, 127441, 127463, 127484, 127506, 127528, 127549,
   127571, 127592, 127614, 127635, 127657, 127679, 127700, 127722, 127744, 127765, 127787, 127808, 127830, 127852, 127873, 127895,
   127917, 127938, 127960, 127982, 128003, 128025, 128047, 128068, 128090, 128112, 128133, 128155, 128177, 128198, 128220, 128242]

/-- The reference EXP2_FRAC at 3968 to 4031. -/
def exp2Part62 : List Nat :=
  [
   128263, 128285, 128307, 128329, 128350, 128372, 128394, 128415, 128437, 128459, 128481, 128502, 128524, 128546, 128568, 128589,
   128611, 128633, 128655, 128676, 128698, 128720, 128742, 128764, 128785, 128807, 128829, 128851, 128873, 128894, 128916, 128938,
   128960, 128982, 129004, 129025, 129047, 129069, 129091, 129113, 129135, 129156, 129178, 129200, 129222, 129244, 129266, 129288,
   129310, 129331, 129353, 129375, 129397, 129419, 129441, 129463, 129485, 129507, 129529, 129550, 129572, 129594, 129616, 129638]

/-- The reference EXP2_FRAC at 4032 to 4095. -/
def exp2Part63 : List Nat :=
  [
   129660, 129682, 129704, 129726, 129748, 129770, 129792, 129814, 129836, 129858, 129880, 129902, 129924, 129946, 129968, 129990,
   130012, 130034, 130056, 130078, 130100, 130122, 130144, 130166, 130188, 130210, 130232, 130254, 130276, 130298, 130320, 130342,
   130364, 130386, 130408, 130430, 130452, 130474, 130497, 130519, 130541, 130563, 130585, 130607, 130629, 130651, 130673, 130695,
   130718, 130740, 130762, 130784, 130806, 130828, 130850, 130873, 130895, 130917, 130939, 130961, 130983, 131005, 131028, 131050]

/-- 32767·sin(2π·j/1024), rounded, for 0 ≤ j < 256 (44_lut_mixer.md R166). -/
def sineQuarter : List Nat := List.flatten [sineQuarter0, sineQuarter1, sineQuarter2, sineQuarter3]

/-- The positive half cycle, 0 ≤ j < 512, by `WAVE[0][512 − j] = WAVE[0][j]` (44_lut_mixer.md R166). -/
def sineHalf : List Nat := sineQuarter ++ 32767 :: (sineQuarter.drop 1).reverse

/-- The reference sine table WAVE[0] (44_lut_mixer.md R166), antisymmetric about j = 512. -/
def refSine : List Sample :=
  sineHalf.map (fun x => BitVec.ofNat 16 x) ++ sineHalf.map (fun x => BitVec.ofInt 16 (-(x : Int)))

/-- `floor(65536 · 2^(f/4096) + 1/2)` for 0 ≤ f < 4096 (40_operator.md R103). -/
def refExp2Nat : List Nat :=
  List.flatten [
   exp2Part0, exp2Part1, exp2Part2, exp2Part3, exp2Part4, exp2Part5, exp2Part6, exp2Part7,
   exp2Part8, exp2Part9, exp2Part10, exp2Part11, exp2Part12, exp2Part13, exp2Part14, exp2Part15,
   exp2Part16, exp2Part17, exp2Part18, exp2Part19, exp2Part20, exp2Part21, exp2Part22, exp2Part23,
   exp2Part24, exp2Part25, exp2Part26, exp2Part27, exp2Part28, exp2Part29, exp2Part30, exp2Part31,
   exp2Part32, exp2Part33, exp2Part34, exp2Part35, exp2Part36, exp2Part37, exp2Part38, exp2Part39,
   exp2Part40, exp2Part41, exp2Part42, exp2Part43, exp2Part44, exp2Part45, exp2Part46, exp2Part47,
   exp2Part48, exp2Part49, exp2Part50, exp2Part51, exp2Part52, exp2Part53, exp2Part54, exp2Part55,
   exp2Part56, exp2Part57, exp2Part58, exp2Part59, exp2Part60, exp2Part61, exp2Part62, exp2Part63]

/-- The reference table EXP2_FRAC (40_operator.md R103). -/
def refExp2 : List Word32 := refExp2Nat.map (fun x => BitVec.ofNat 32 x)

/-- The test table NOTE_INC[n] = n · 2^24 of 95_test_vectors.md (a test table, not a tuning). -/
def testNoteInc : List Word32 := (List.range 128).map (fun n => BitVec.ofNat 32 (n * 2 ^ 24))

/-- The test configuration of 95_test_vectors.md meets the constraints of 70_reset_and_hazards.md R253. -/
theorem testConfig_ok : configOk 2 1 [refSine] testNoteInc refExp2 = true := by decide +kernel

/-- The start state's configuration in 95_test_vectors.md: NUM_VOICES = 2, NUM_WAVES = 1, the reference sine, the test
NOTE_INC and the reference EXP2_FRAC. DESIGN CHOICE: `State.reset` needs one configuration and the spec leaves it OPEN
(notes/assumptions/1.md). -/
def testConfig : Config := ⟨2, 1, [refSine], testNoteInc, refExp2, testConfig_ok⟩

end Sys2Proof.Machine
end

