-- ==== Sys2Proof/Machine/State.lean ====
section
/-! DEFINITION. The state (10_state.md R23 to R34; 00_scope.md R9), why a step can stop, and the state after reset
(70_reset_and_hazards.md R250). -/

namespace Sys2Proof.Machine

/-- P.OP[i]: the stored values of 10_state.md Table 10-1. Every stored value is an integer (R24). -/
structure OpParams where
  ratioCoarse : Int
  ratioFine : Int
  keytrack : Int
  fixedInc : Int
  octave : Int
  waveform : Int
  startPhase : Int
  envDelay : Int
  envAttack : Int
  envHold : Int
  envDecay : Int
  envSustain : Int
  envRelease : Int
  envAmp : Int
  envRatioCoarse : Int
  envRatioFine : Int
  lfoInc : Int
  lfoShape : Int
  lfoRetrig : Int
  lfoRatioCoarse : Int
  lfoRatioFine : Int
deriving DecidableEq, Repr

/-- P.EDGE[k] (10_state.md Table 10-2). -/
structure EdgeParams where
  depth : Int
  enable : Int
  mode : Int
deriving DecidableEq, Repr

/-- P.MIX[i] (10_state.md Table 10-4). -/
structure MixParams where
  level : Int
  enable : Int
deriving DecidableEq, Repr

/-- P, the parameter register file (10_state.md R24 to R28), shared by all voice contexts. -/
structure Params where
  /-- P.OP[i] (R25) -/
  ops : Vector OpParams 6
  /-- P.FB[i], the self-feedback levels (R26) -/
  fb : Vector Int 6
  /-- P.EDGE[k] (R27) -/
  edges : Vector EdgeParams 15
  /-- P.MIX[i] (R28) -/
  mix : Vector MixParams 6
  /-- P.MASTER (R28) -/
  master : Int
deriving DecidableEq, Repr

/-- The operator parameters whose every field is what `f` gives it. -/
def OpParams.ofFields (f : OpField → Int) : OpParams :=
  { ratioCoarse := f .ratioCoarse, ratioFine := f .ratioFine, keytrack := f .keytrack, fixedInc := f .fixedInc,
    octave := f .octave, waveform := f .waveform, startPhase := f .startPhase,
    envDelay := f .envDelay, envAttack := f .envAttack, envHold := f .envHold, envDecay := f .envDecay,
    envSustain := f .envSustain, envRelease := f .envRelease, envAmp := f .envAmp,
    envRatioCoarse := f .envRatioCoarse, envRatioFine := f .envRatioFine,
    lfoInc := f .lfoInc, lfoShape := f .lfoShape, lfoRetrig := f .lfoRetrig,
    lfoRatioCoarse := f .lfoRatioCoarse, lfoRatioFine := f .lfoRatioFine }

/-- The parameter file whose every parameter is what `f` gives it. -/
def Params.ofNames (f : ParamName → Int) : Params :=
  { ops := Vector.ofFn fun i => OpParams.ofFields fun g => f (.op i g)
    fb := Vector.ofFn fun i => f (.fb i)
    edges := Vector.ofFn fun k => { depth := f (.edge k .depth), enable := f (.edge k .enable), mode := f (.edge k .mode) }
    mix := Vector.ofFn fun i => { level := f (.mix i .level), enable := f (.mix i .enable) }
    master := f .master }

/-- Every RW parameter at the `reset` column of 10_state.md Tables 10-1, 10-2 and 10-4 (70_reset_and_hazards.md R250). -/
def Params.reset (numWaves : Nat) : Params := Params.ofNames fun n => (paramRow numWaves n).reset

/-- The envelope stages (41_envelope.md R120); code 7 never occurs (10_state.md Table 10-7). -/
inductive Stage where
  | idle | delay | attack | hold | decay | sustain | release
deriving DecidableEq, Repr

/-- The envelope of an operator context (10_state.md Table 10-7). -/
structure Env where
  stage : Stage
  /-- ticks elapsed in the current stage -/
  k : BitVec 24
  /-- last level output, UQ1.15 -/
  level : BitVec 16
  /-- level at the start of Release -/
  l0 : BitVec 16
deriving DecidableEq, Repr

/-- V[v].op[i] (10_state.md Table 10-7). -/
structure OpCtx where
  /-- operator phase, 2^32 = one cycle -/
  phase : Word32
  /-- last tick's operator output, two's complement -/
  prev : Sample
  /-- LFO phase -/
  lfo : Word32
  env : Env
deriving DecidableEq, Repr

/-- The lifecycle of a voice context; code 3 never occurs (10_state.md Table 10-6). -/
inductive Life where
  | free | active | releasing
deriving DecidableEq, Repr

/-- V[v], a voice context (10_state.md Tables 10-6, 10-7). -/
structure Voice where
  life : Life
  note : BitVec 7
  vel : BitVec 7
  age : Word32
  ops : Vector OpCtx 6
deriving DecidableEq, Repr

/-- What a command sends out (30_encoding.md R80): a response word, or a sample vector ordered by voice index (R89). -/
inductive Event where
  | response (w : Word64)
  | samples (vec : List Sample)
deriving DecidableEq, Repr

/-- The machine: `S = (P, STATUS, V[0 .. NUM_VOICES-1])` (00_scope.md R9, 10_state.md R23), with the configuration held
fixed beside it and the two streams of a run. `cfg`, `input` and `out` are the model's own fields: the configuration is an
argument of the model (R5), and the command stream and its observation belong to the host (R9, R21;
notes/assumptions/1.md, 3.md, 4.md). -/
structure State where
  /-- the configuration; no command changes it (20_memory.md R71) -/
  cfg : Config
  /-- P -/
  params : Params
  /-- STATUS (10_state.md R29) -/
  status : Word32
  /-- V[0 .. NUM_VOICES-1], by voice index (10_state.md R31) -/
  voices : List Voice
  /-- the command words the host has sent and the block has not yet taken, first to be taken first (00_scope.md R9) -/
  input : List Word64
  /-- the responses and sample vectors emitted so far, in command order (20_memory.md R67) -/
  out : List Event
deriving DecidableEq, Repr

/-- Why the machine would stop with a fault: no reason exists. "No error stops the block" (60_exceptions.md R230) and
there is no trap (R234). Nothing raises one; safe. -/
inductive Fault where
deriving DecidableEq, Repr

/-- Why a command would have no meaning. -/
inductive Refusal where
  /-- Raised by an arm of `exec` whose command has no meaning yet (safe). No arm does: "The block never refuses a
  command word" (70_reset_and_hazards.md R261). -/
  | notModelled (mnemonic : String)
deriving DecidableEq, Repr

/-- An envelope at reset (70_reset_and_hazards.md R250): Idle, all fields 0. -/
def Env.reset : Env := { stage := .idle, k := 0#24, level := 0#16, l0 := 0#16 }

/-- An operator context at reset (R250). -/
def OpCtx.reset : OpCtx := { phase := 0#32, prev := 0#16, lfo := 0#32, env := Env.reset }

/-- A voice context at reset (R250): Free, all fields 0. -/
def Voice.reset : Voice :=
  { life := .free, note := 0#7, vel := 0#7, age := 0#32, ops := Vector.ofFn fun _ => OpCtx.reset }

/-- The state after reset under a configuration (70_reset_and_hazards.md R250): "no response word and no sample vector
is pending", and the block waits for the first command word (R252). -/
def State.resetWith (c : Config) : State :=
  { cfg := c
    params := Params.reset c.numWaves
    status := 0#32
    voices := List.replicate c.numVoices Voice.reset
    input := []
    out := [] }

/-- The machine right after reset. DESIGN CHOICE: the configuration, which the spec leaves OPEN, is the test
configuration of 95_test_vectors.md (notes/assumptions/1.md). -/
def State.reset : State := State.resetWith testConfig

end Sys2Proof.Machine
end

