-- ==== Sys2Proof/Machine/Flags.lean ====
section
/-! DEFINITION. The STATUS bits (10_state.md R29, Table 10-5; 60_exceptions.md Table 60-1). There are no condition codes
(10_state.md R22): STATUS is the only flag-like state. -/

namespace Sys2Proof.Machine

/-- The named bits of STATUS. -/
inductive StatusBit where
  | illegalOp | reserved | unknownId | readOnly | badVoice | badOperand
  /-- informational, not an error -/
  | clamped
deriving DecidableEq, Repr

/-- The bit column of 10_state.md Table 10-5. -/
def StatusBit.index : StatusBit → Nat
  | .illegalOp => 0
  | .reserved => 1
  | .unknownId => 2
  | .readOnly => 3
  | .badVoice => 4
  | .badOperand => 5
  | .clamped => 6

/-- The word with that bit alone set. -/
def StatusBit.mask (b : StatusBit) : Word32 := 1#32 <<< b.index

/-- `STATUS[BIT] <- 1`; every bit is sticky (60_exceptions.md R231, R236). -/
def setStatus (status : Word32) (b : StatusBit) : Word32 := status ||| b.mask

/-- `STATUS & ~(VALUE & 0x7F)`: write one to clear (46_param_commands.md R193). -/
def clearStatus (status value : Word32) : Word32 := status &&& ~~~(value &&& 0x7F#32)

end Sys2Proof.Machine
end

