-- ==== Sys2Proof/Machine/Operands.lean ====
section
/-! DEFINITION. The operand forms: the signed or unsigned reading of VALUE (30_encoding.md R83), the selectors of
READ_VOICE (47_voice_commands.md Table 47-1), and the response words (30_encoding.md R87, R88, Table 30-3). -/

namespace Sys2Proof.Machine

/-- `if signed(id) then s32(val) else u32(val)` (46_param_commands.md R191). -/
def readValue (signed : Bool) (value : Word32) : Int :=
  if signed then value.toInt else value.toNat

/-- The codes of 10_state.md Table 10-6. -/
def Life.code : Life → Nat
  | .free => 0
  | .active => 1
  | .releasing => 2

/-- The codes of 41_envelope.md R120. -/
def Stage.code : Stage → Nat
  | .idle => 0
  | .delay => 1
  | .attack => 2
  | .hold => 3
  | .decay => 4
  | .sustain => 5
  | .release => 6

/-- A field of a voice context that READ_VOICE shows (47_voice_commands.md Table 47-1). -/
inductive Selector where
  | lifeNoteVel
  | age
  | stageLevel (i : OpIx)
  | envK (i : OpIx)
  | envL0 (i : OpIx)
  | phase (i : OpIx)
  | prev (i : OpIx)
  | lfo (i : OpIx)
deriving DecidableEq, Repr

/-- The SEL column of Table 47-1; none for SEL > 37 (ERR_BAD_OPERAND). -/
def selectorOf (sel : Nat) : Option Selector :=
  if sel = 0 then some .lifeNoteVel
  else if sel = 1 then some .age
  else if sel ≤ 7 then some (.stageLevel (Fin.ofNat 6 (sel - 2)))
  else if sel ≤ 13 then some (.envK (Fin.ofNat 6 (sel - 8)))
  else if sel ≤ 19 then some (.envL0 (Fin.ofNat 6 (sel - 14)))
  else if sel ≤ 25 then some (.phase (Fin.ofNat 6 (sel - 20)))
  else if sel ≤ 31 then some (.prev (Fin.ofNat 6 (sel - 26)))
  else if sel ≤ 37 then some (.lfo (Fin.ofNat 6 (sel - 32)))
  else none

/-- `payload(v, sel)`, 40 bits, zero above the packed fields (47_voice_commands.md R213, Table 47-1). -/
def payload (v : Voice) : Selector → BitVec 40
  | .lifeNoteVel => (BitVec.ofNat 40 v.life.code <<< 16) ||| (v.note.setWidth 40 <<< 8) ||| v.vel.setWidth 40
  | .age => v.age.setWidth 40
  | .stageLevel i => (BitVec.ofNat 40 v.ops[i].env.stage.code <<< 16) ||| v.ops[i].env.level.setWidth 40
  | .envK i => v.ops[i].env.k.setWidth 40
  | .envL0 i => v.ops[i].env.l0.setWidth 40
  | .phase i => v.ops[i].phase.setWidth 40
  | .prev i => v.ops[i].prev.setWidth 40
  | .lfo i => v.ops[i].lfo.setWidth 40

/-- The ERR bit [56] of a response word (30_encoding.md Table 30-3). -/
def errBit (err : Bool) : Word64 := if err then 1#64 <<< 56 else 0#64

/-- `(0x8 << 60) | (ERR << 56) | (ID << 32) | RVAL` (30_encoding.md R87). -/
def paramResponse (err : Bool) (id : Nat) (rval : Word32) : Word64 :=
  (0x8#64 <<< 60) ||| errBit err ||| ((BitVec.ofNat 16 id).setWidth 64 <<< 32) ||| rval.setWidth 64

/-- `(0x9 << 60) | (ERR << 56) | (VOICE << 48) | (SEL << 40) | PAYLOAD` (30_encoding.md R88). -/
def voiceResponse (err : Bool) (voice sel : Nat) (pay : BitVec 40) : Word64 :=
  (0x9#64 <<< 60) ||| errBit err ||| ((BitVec.ofNat 8 voice).setWidth 64 <<< 48) |||
    ((BitVec.ofNat 8 sel).setWidth 64 <<< 40) ||| pay.setWidth 64

/-- The value of CONFIG (10_state.md R30): NUM_OPS, NUM_VOICES − 1, NUM_WAVES − 1 and SPEC_REV = 1. -/
def configWord (c : Config) : Word32 :=
  6#32 ||| (BitVec.ofNat 32 (c.numVoices - 1) <<< 8) ||| (BitVec.ofNat 32 (c.numWaves - 1) <<< 16) ||| (1#32 <<< 24)

end Sys2Proof.Machine
end

