-- ==== Sys2Proof/Machine/Ops.lean ====
section
/-! DEFINITION. The named operations over the parameter file, the voice contexts, STATUS and the ports
(00_scope.md R8). The block has no byte memory and no trap (20_memory.md R60; 60_exceptions.md R234): the one shared
way an error is taken is `raiseError`, and there is nothing to return from (R236). -/

namespace Sys2Proof.Machine

/-- P.OP[i].NAME of one operator's parameters. -/
def OpParams.get (p : OpParams) : OpField → Int
  | .ratioCoarse => p.ratioCoarse
  | .ratioFine => p.ratioFine
  | .keytrack => p.keytrack
  | .fixedInc => p.fixedInc
  | .octave => p.octave
  | .waveform => p.waveform
  | .startPhase => p.startPhase
  | .envDelay => p.envDelay
  | .envAttack => p.envAttack
  | .envHold => p.envHold
  | .envDecay => p.envDecay
  | .envSustain => p.envSustain
  | .envRelease => p.envRelease
  | .envAmp => p.envAmp
  | .envRatioCoarse => p.envRatioCoarse
  | .envRatioFine => p.envRatioFine
  | .lfoInc => p.lfoInc
  | .lfoShape => p.lfoShape
  | .lfoRetrig => p.lfoRetrig
  | .lfoRatioCoarse => p.lfoRatioCoarse
  | .lfoRatioFine => p.lfoRatioFine

/-- `P.OP[i].NAME <- x`, on one operator's parameters. -/
def OpParams.set (p : OpParams) (f : OpField) (x : Int) : OpParams :=
  match f with
  | .ratioCoarse => { p with ratioCoarse := x }
  | .ratioFine => { p with ratioFine := x }
  | .keytrack => { p with keytrack := x }
  | .fixedInc => { p with fixedInc := x }
  | .octave => { p with octave := x }
  | .waveform => { p with waveform := x }
  | .startPhase => { p with startPhase := x }
  | .envDelay => { p with envDelay := x }
  | .envAttack => { p with envAttack := x }
  | .envHold => { p with envHold := x }
  | .envDecay => { p with envDecay := x }
  | .envSustain => { p with envSustain := x }
  | .envRelease => { p with envRelease := x }
  | .envAmp => { p with envAmp := x }
  | .envRatioCoarse => { p with envRatioCoarse := x }
  | .envRatioFine => { p with envRatioFine := x }
  | .lfoInc => { p with lfoInc := x }
  | .lfoShape => { p with lfoShape := x }
  | .lfoRetrig => { p with lfoRetrig := x }
  | .lfoRatioCoarse => { p with lfoRatioCoarse := x }
  | .lfoRatioFine => { p with lfoRatioFine := x }

/-- P.EDGE[k].NAME of one edge's parameters. -/
def EdgeParams.get (p : EdgeParams) : EdgeField → Int
  | .depth => p.depth
  | .enable => p.enable
  | .mode => p.mode

/-- `P.EDGE[k].NAME <- x`, on one edge's parameters. -/
def EdgeParams.set (p : EdgeParams) (f : EdgeField) (x : Int) : EdgeParams :=
  match f with
  | .depth => { p with depth := x }
  | .enable => { p with enable := x }
  | .mode => { p with mode := x }

/-- P.MIX[i].NAME of one mixer slot. -/
def MixParams.get (p : MixParams) : MixField → Int
  | .level => p.level
  | .enable => p.enable

/-- `P.MIX[i].NAME <- x`, on one mixer slot. -/
def MixParams.set (p : MixParams) (f : MixField) (x : Int) : MixParams :=
  match f with
  | .level => { p with level := x }
  | .enable => { p with enable := x }

/-- `P[id]` by name (00_scope.md R8). -/
def Params.get (p : Params) : ParamName → Int
  | .op i f => p.ops[i].get f
  | .fb i => p.fb[i]
  | .edge k f => p.edges[k].get f
  | .mix i f => p.mix[i].get f
  | .master => p.master

/-- `P[id] <- x` by name (00_scope.md R8). -/
def Params.set (p : Params) (n : ParamName) (x : Int) : Params :=
  match n with
  | .op i f => { p with ops := p.ops.set i (p.ops[i].set f x) }
  | .fb i => { p with fb := p.fb.set i x }
  | .edge k f => { p with edges := p.edges.set k (p.edges[k].set f x) }
  | .mix i f => { p with mix := p.mix.set i (p.mix[i].set f x) }
  | .master => { p with master := x }

/-- The row of a parameter under the state's configuration. -/
def State.row (s : State) (n : ParamName) : ParamRow := paramRow s.cfg.numWaves n

/-- `P[id] <- x` in the state. -/
def State.writeParam (s : State) (n : ParamName) (x : Int) : State := { s with params := s.params.set n x }

/-- What READ_PARAM returns for a known id (46_param_commands.md R196): STATUS, CONFIG, or `u32(P[id])`. -/
def State.readTarget (s : State) : Target → Word32
  | .param n => wrap32 (s.params.get n)
  | .status => s.status
  | .config => configWord s.cfg

/-- V[v], where VOICE < NUM_VOICES (30_encoding.md R83). -/
def State.voice? (s : State) (v : Nat) : Option Voice := if v < s.cfg.numVoices then s.voices[v]? else none

/-- `V[v] <- vc`. -/
def State.setVoice (s : State) (v : Nat) (vc : Voice) : State := { s with voices := s.voices.set v vc }

/-- STATUS with a bit set. -/
def State.flag (s : State) (b : StatusBit) : State := { s with status := setStatus s.status b }

/-- `raise Error(BIT)`: set the STATUS bit and abandon the rest of the command, with no other state change
(60_exceptions.md R231). -/
def raiseError (b : StatusBit) (s : State) : Host.Outcome State Fault Refusal := .next (s.flag b)

/-- `respond(w)`: one word on the response port (00_scope.md R8). -/
def State.respond (s : State) (w : Word64) : State := { s with out := s.out ++ [.response w] }

/-- `emit(s_0, ...)`: one sample vector on the sample port (00_scope.md R8). -/
def State.emit (s : State) (vec : List Sample) : State := { s with out := s.out ++ [.samples vec] }

/-- The bytes in which a transport carries what a command sent out (20_memory.md R62): a response word or a sample vector,
bits [7:0] of each word first. -/
def Event.wireBytes : Event → List Byte
  | .response w => Sys2Proof.wireBytes w
  | .samples vec => wireVector vec

/-- The next command word of the host's stream, and the state with that word taken; none while the block waits
(00_scope.md R9; 10_state.md R21). -/
def State.fetch? (s : State) : Option (Word64 × State) :=
  match s.input with
  | [] => none
  | w :: rest => some (w, { s with input := rest })

/-- The reset signal, "a signal outside the command set" (70_reset_and_hazards.md R250). The configuration tables are
"not touched by reset"; "no response word and no sample vector is pending". No command performs it, so no step does.
DESIGN CHOICE: it empties `input`, the words not yet taken, and `out`, the record of what was emitted
(notes/assumptions/5.md). -/
def applyReset (s : State) : State := State.resetWith s.cfg

end Sys2Proof.Machine
end

