-- ==== Sys2Proof/Machine/ParamCommands.lean ====
section
/-! DEFINITION. The parameter commands NOP, SET_PARAM, BEGIN_EDIT, END_EDIT and READ_PARAM (46_param_commands.md
R190 to R197). The must-be-zero check of each is the decoder's (30_encoding.md R84, R86). -/

namespace Sys2Proof.Machine

/-- NOP (46_param_commands.md R190): no effect. -/
def execNop (s : State) : Host.Outcome State Fault Refusal := .next s

/-- The write of a RW parameter (46_param_commands.md R191, R192): the clamped value is stored, and CLAMPED is set when
it differs from the value given. -/
def storeParam (n : ParamName) (value : Word32) (s : State) : State :=
  let x := readValue (s.row n).signed value
  let y := clamp x (s.row n).min (s.row n).max
  State.writeParam (if y = x then s else s.flag .clamped) n y

/-- SET_PARAM (46_param_commands.md R191; to STATUS, R193). -/
def execSetp (id : Nat) (value : Word32) (s : State) : Host.Outcome State Fault Refusal :=
  match lookupId id with
  | none => raiseError .unknownId s
  | some .config => raiseError .readOnly s
  | some .status => .next { s with status := clearStatus s.status value }
  | some (.param n) => .next (storeParam n value s)

/-- The check that BEGIN_EDIT and END_EDIT share: an unknown id is an error, a known one has no effect
(46_param_commands.md R194, R195). -/
def checkKnown (id : Nat) (s : State) : Host.Outcome State Fault Refusal :=
  if known id then .next s else raiseError .unknownId s

/-- BEGIN_EDIT (46_param_commands.md R194): the block keeps no open-gesture state. -/
def execBedit (id : Nat) (s : State) : Host.Outcome State Fault Refusal := checkKnown id s

/-- END_EDIT (46_param_commands.md R195). -/
def execEedit (id : Nat) (s : State) : Host.Outcome State Fault Refusal := checkKnown id s

/-- READ_PARAM (46_param_commands.md R196): exactly one response, on success and on the error. -/
def execRdp (id : Nat) (s : State) : Host.Outcome State Fault Refusal :=
  match lookupId id with
  | none => raiseError .unknownId (s.respond (paramResponse true id 0#32))
  | some t => .next (s.respond (paramResponse false id (s.readTarget t)))

end Sys2Proof.Machine
end

