-- ==== Sys2Proof/Machine/Envelope.lean ====
section
/-! DEFINITION. The DAHDSR envelope (41_envelope.md R120 to R128). Durations and the sustain level are read from the
operator's parameters at the time of use: nothing is latched (R128). -/

namespace Sys2Proof.Machine

/-- `dur(i, stage)` (41_envelope.md R121); Idle and Sustain have none. -/
def duration (p : OpParams) : Stage → Option Int
  | .idle => none
  | .delay => some p.envDelay
  | .attack => some p.envAttack
  | .hold => some p.envHold
  | .decay => some p.envDecay
  | .sustain => none
  | .release => some p.envRelease

/-- `next(stage)` (41_envelope.md R122). Idle and Sustain have no successor and are never left by time. -/
def Stage.next : Stage → Stage
  | .idle => .idle
  | .delay => .attack
  | .attack => .hold
  | .hold => .decay
  | .decay => .sustain
  | .sustain => .sustain
  | .release => .idle

/-- The skip loop of 41_envelope.md R122, run at most `fuel` times. -/
def skipStages (p : OpParams) : Nat → Stage → Stage
  | 0, st => st
  | fuel + 1, st => if duration p st = some 0 then skipStages p fuel st.next else st

/-- The stage that entering `st` ends in: every zero-duration stage is skipped. "The loop ends after at most five
steps" (R122). -/
def landing (p : OpParams) (st : Stage) : Stage := skipStages p 5 st

/-- `enter(E, i, s)` (R122): neither the level nor L0 changes. -/
def Env.enter (p : OpParams) (st : Stage) (E : Env) : Env := { E with stage := landing p st, k := 0#24 }

/-- The level of a stage (41_envelope.md R123), with S = ENV_SUSTAIN, `l0` = E.L0, `kk` = min(E.k, d). The arms with
d = 0 never divide. -/
def stageLevel (sustain l0 d kk : Int) : Stage → Int
  | .idle => 0
  | .delay => 0
  | .attack => if d = 0 then 32768 else floorDiv (32768 * kk) d
  | .hold => 32768
  | .decay => if d = 0 then sustain else 32768 - floorDiv ((32768 - sustain) * kk) d
  | .sustain => sustain
  | .release => if d = 0 then 0 else l0 - floorDiv (l0 * kk) d

/-- The level `e` the envelope gives this tick (R123): E.k counts this tick when the stage has a duration. -/
def envLevel (p : OpParams) (E : Env) : Int :=
  match duration p E.stage with
  | none => stageLevel p.envSustain E.l0.toNat 0 0 E.stage
  | some d => stageLevel p.envSustain E.l0.toNat d (min ((E.k.toNat : Int) + 1) d) E.stage

/-- `env_step(E, i)` (R123), the envelope after the tick: the level output is kept, and a stage whose time is over is
left for the next one. -/
def envStep (p : OpParams) (E : Env) : Env :=
  match duration p E.stage with
  | none => { E with level := BitVec.ofInt 16 (envLevel p E) }
  | some d =>
    if d ≤ (E.k.toNat : Int) + 1 then
      Env.enter p E.stage.next { E with level := BitVec.ofInt 16 (envLevel p E) }
    else
      { E with level := BitVec.ofInt 16 (envLevel p E), k := BitVec.ofNat 24 (E.k.toNat + 1) }

/-- `env_release(E, i)` (R124): Release starts from the last level output; Idle and Release are left alone. -/
def envRelease (p : OpParams) (E : Env) : Env :=
  match E.stage with
  | .idle => E
  | .release => E
  | _ => Env.enter p .release { E with l0 := E.level }

/-- `env_kill(E)` (R125). -/
def envKill (_E : Env) : Env := { stage := .idle, k := 0#24, level := 0#16, l0 := 0#16 }

/-- `env_start(E, i)` (R126): the envelope restarts from level 0, whatever it was. -/
def envStart (p : OpParams) (E : Env) : Env := Env.enter p .delay { E with k := 0#24, level := 0#16, l0 := 0#16 }

end Sys2Proof.Machine
end

