-- ==== Sys2Proof/Machine/Matrix.lean ====
section
/-! DEFINITION. The modulation-matrix router (43_matrix.md R150 to R156). `outs` holds this tick's outputs of the
operators already evaluated, operator 0 first. -/

namespace Sys2Proof.Machine

/-- `k = t·(t − 1)/2 + s`, the index of edge (s, t) for s < t (43_matrix.md R150). -/
def edgeIndex (s t : OpIx) : EdgeIx := Fin.ofNat 15 (t.val * (t.val - 1) / 2 + s.val)

/-- The target of edge k: the largest t with t·(t − 1)/2 ≤ k (R150). -/
def edgeTarget (k : EdgeIx) : Nat :=
  ((List.range 6).filter fun t => decide (t * (t - 1) / 2 ≤ k.val)).getLastD 0

/-- The source of edge k: `s = k − t·(t − 1)/2` (R150). -/
def edgeSource (k : EdgeIx) : Nat := k.val - edgeTarget k * (edgeTarget k - 1) / 2

/-- The sources of edges into `t`, ascending: 0 .. t − 1. There is no edge with s ≥ t (R150). -/
def sources (t : OpIx) : List OpIx := (List.finRange 6).filter fun s => decide (s < t)

/-- `outs[s]`. -/
def outAt (outs : List Int) (s : OpIx) : Int := outs.getD s.val 0

/-- One term of the phase-modulation sum (43_matrix.md R152): an enabled edge in mode 0 adds its scaled source, every
other edge adds 0. -/
def pmTerm (e : EdgeParams) (o : Int) : Int := if e.enable = 1 ∧ e.mode = 0 then o * e.depth * 8 else 0

/-- `pm(v, i, outs)` (R152). -/
def pmSum (p : Params) (i : OpIx) (outs : List Int) : Int :=
  ((sources i).map fun s => pmTerm p.edges[edgeIndex s i] (outAt outs s)).sum

/-- The factor of a ring-modulation edge (43_matrix.md R153), Q1.15. -/
def rmFactor (depth o : Int) : Int := floorDiv (depth * o) 16384

/-- One step of the ring-modulation chain (R153): an enabled edge in mode 1 multiplies, every other edge is the
identity. -/
def rmStep (e : EdgeParams) (o w : Int) : Int :=
  if e.enable = 1 ∧ e.mode = 1 then sat16 (floorDiv (w * rmFactor e.depth o) 32768) else w

/-- `rm(v, i, w0, outs)`, the edges taken in ascending source order (R153). -/
def rmChain (p : Params) (i : OpIx) (w0 : Int) (outs : List Int) : Int :=
  (sources i).foldl (fun w s => rmStep p.edges[edgeIndex s i] (outAt outs s) w) w0

end Sys2Proof.Machine
end

