-- ==== Sys2Proof/Machine/Mixer.lean ====
section
/-! DEFINITION. The per-voice mixer and the master level (44_lut_mixer.md R168 to R170). -/

namespace Sys2Proof.Machine

/-- One operator's term of the mix: gated by ENABLE, weighted by LEVEL (44_lut_mixer.md R168). -/
def mixTerm (m : MixParams) (o : Int) : Int := if m.enable = 1 then o * m.level else 0

/-- `acc(v)`, an exact sum (R168). -/
def mixAcc (p : Params) (outs : List Int) : Int :=
  ((List.finRange 6).map fun i => mixTerm p.mix[i] (outAt outs i)).sum

/-- `mixed(v)` (R168). -/
def mixed (p : Params) (outs : List Int) : Int := floorDiv (mixAcc p outs) 16384

/-- `vo(v)`: the master level, then the mix's only saturation (R169). -/
def voiceOut (p : Params) (outs : List Int) : Int := sat16 (floorDiv (mixed p outs * p.master) 16384)

end Sys2Proof.Machine
end

