-- ==== Sys2Proof/Machine/Wave.lean ====
section
/-! DEFINITION. The configuration tables (44_lut_mixer.md R165; 40_operator.md R103, R104) and the LFO
(42_lfo.md R140 to R143). -/

namespace Sys2Proof.Machine

/-- The index of a 32-bit phase: its top 10 bits, `phase >> 22` (44_lut_mixer.md R165). -/
def waveIndex (phase : Word32) : Nat := phase.toNat / 2 ^ 22

/-- `WAVE[w][phase >> 22]` as an integer (R165). Every access is in range while the selector is below NUM_WAVES, which
SET_PARAM's clamp keeps (R165); an entry past a table's end, which no such access reaches, is 0. -/
def waveAt (c : Config) (sel : Int) (phase : Word32) : Int :=
  ((c.wave.getD sel.toNat []).getD (waveIndex phase) 0#16).toInt

/-- `NOTE_INC[n]` (40_operator.md R104); a 7-bit note number is always in range. -/
def noteIncAt (c : Config) (note : BitVec 7) : Int := ((c.noteInc.getD note.toNat 0#32).toNat : Int)

/-- `EXP2_FRAC[f]` (40_operator.md R103), 0 ≤ f ≤ 4095. -/
def exp2At (c : Config) (f : Nat) : Int := ((c.exp2Frac.getD f 0#32).toNat : Int)

/-- The LFO output, read before this tick's advance (42_lfo.md R140). -/
def lfoOut (c : Config) (p : OpParams) (o : OpCtx) : Int := waveAt c p.lfoShape o.lfo

/-- The LFO phase after the tick (42_lfo.md R141). -/
def lfoNext (p : OpParams) (o : OpCtx) : Word32 := wrap32 ((o.lfo.toNat : Int) + p.lfoInc)

/-- The LFO phase after NOTE_ON (42_lfo.md R142). -/
def lfoRetrigger (p : OpParams) (o : OpCtx) : Word32 := if p.lfoRetrig = 1 then 0#32 else o.lfo

end Sys2Proof.Machine
end

