-- ==== Sys2Proof/Machine/Operator.lean ====
section
/-! DEFINITION. The operator: frequency, phase offsets, waveform and output (40_operator.md R100 to R113). `e` is the
operator's envelope level and `l` its LFO output, both of this tick. -/

namespace Sys2Proof.Machine

/-- `Rb(i)`, the base ratio in UQ8.16, clipped at 0 (40_operator.md R100). -/
def baseRatio (p : OpParams) : Int := max 0 (p.ratioCoarse * 65536 + p.ratioFine)

/-- `Denv(i)`, in 1/4096 octave (R101). -/
def envRatioDepth (p : OpParams) : Int := p.envRatioCoarse * 4096 + p.envRatioFine

/-- `Dlfo(i)`, in 1/4096 octave (R101). -/
def lfoRatioDepth (p : OpParams) : Int := p.lfoRatioCoarse * 4096 + p.lfoRatioFine

/-- `X(i)`, the pitch exponent in 1/4096 octave (R102): each product is floored before the sum, and OCTAVE counts only
when the operator is not keytracked. -/
def pitchExponent (p : OpParams) (e l : Int) : Int :=
  floorDiv (e * envRatioDepth p) 32768 + floorDiv (l * lfoRatioDepth p) 32768 +
    (if p.keytrack = 1 then 0 else p.octave * 4096)

/-- `n = floor_div(X, 4096)` (R103). -/
def expOctave (x : Int) : Int := floorDiv x 4096

/-- `f = X − 4096·n`, in 0 .. 4095 (R103). -/
def expFrac (x : Int) : Nat := (x - 4096 * expOctave x).toNat

/-- `mant = EXP2_FRAC[f]` (R103): 2^(X/4096) is mant · 2^(n − 16). -/
def mantissa (c : Config) (x : Int) : Int := exp2At c (expFrac x)

/-- The keytracked phase increment (R104): one truncation, then the 32-bit wrap. -/
def incKeytracked (c : Config) (p : OpParams) (note : BitVec 7) (x : Int) : Word32 :=
  wrap32 (shift (noteIncAt c note * baseRatio p * mantissa c x) (expOctave x - 32))

/-- The fixed-frequency phase increment (R105). -/
def incFixed (c : Config) (p : OpParams) (x : Int) : Word32 :=
  wrap32 (shift (p.fixedInc * mantissa c x) (expOctave x - 16))

/-- `inc(v, i)`: keytracked or fixed, as KEYTRACK says (R113). -/
def phaseInc (c : Config) (p : OpParams) (note : BitVec 7) (e l : Int) : Word32 :=
  if p.keytrack = 1 then incKeytracked c p note (pitchExponent p e l) else incFixed c p (pitchExponent p e l)

/-- `fb(v, i)`, the self-feedback offset from the previous tick's output (R106; 43_matrix.md R156). -/
def feedback (prev : Sample) (level : Int) : Int := prev.toInt * level * 8

/-- `eff(v, i)`, the effective phase of this tick's lookup (R107). -/
def effPhase (phase : Word32) (fb pm : Int) : Word32 := wrap32 ((phase.toNat : Int) + fb + pm)

/-- The operator's envelope on its output, where ENV_AMP = 1 (R109). -/
def applyEnvelope (p : OpParams) (w1 e : Int) : Int :=
  if p.envAmp = 1 then sat16 (floorDiv (w1 * e) 32768) else w1

/-- `out(v, i)` (R106 to R109, R113): phase offsets, lookup, ring modulation, envelope, in this order. -/
def opOut (c : Config) (p : Params) (i : OpIx) (o : OpCtx) (e : Int) (outs : List Int) : Int :=
  let eff := effPhase o.phase (feedback o.prev p.fb[i]) (pmSum p i outs)
  let w0 := waveAt c p.ops[i].waveform eff
  applyEnvelope p.ops[i] (rmChain p i w0 outs) e

/-- The phase after the tick (R110). -/
def phaseNext (phase inc : Word32) : Word32 := wrap32 ((phase.toNat : Int) + inc.toNat)

/-- The feedback register after the tick (R111): the operator's output, which fits 16 bits (R109). -/
def prevNext (out : Int) : Sample := BitVec.ofInt 16 out

end Sys2Proof.Machine
end

