-- ==== Sys2Proof/Machine/Tick.lean ====
section
/-! DEFINITION. TICK: one sample of every voice context (45_tick.md R180 to R185). -/

namespace Sys2Proof.Machine

/-- `e[i]` of 45_tick.md R181: operator i's envelope level this tick. -/
def tickLevel (p : Params) (v : Voice) (i : OpIx) : Int := envLevel p.ops[i] v.ops[i].env

/-- `outs[0 .. 5]` of 45_tick.md R181: the operators in ascending index, each seeing the outputs before it
(43_matrix.md R154). -/
def tickOuts (c : Config) (p : Params) (v : Voice) : List Int :=
  (List.finRange 6).foldl (fun outs i => outs ++ [opOut c p i v.ops[i] (tickLevel p v i) outs]) []

/-- Operator i's context after a non-Free tick (45_tick.md R181): envelope, LFO, phase and feedback register. An
operator step writes its own context alone, so the six are independent once `outs` is known. -/
def tickOp (c : Config) (p : Params) (v : Voice) (outs : List Int) (i : OpIx) : OpCtx :=
  { phase := phaseNext v.ops[i].phase (phaseInc c p.ops[i] v.note (tickLevel p v i) (lfoOut c p.ops[i] v.ops[i]))
    prev := prevNext (outAt outs i)
    lfo := lfoNext p.ops[i] v.ops[i]
    env := envStep p.ops[i] v.ops[i].env }

/-- The age after a non-Free tick: saturating at 2^32 − 1 (45_tick.md R184). -/
def ageNext (age : Word32) : Word32 := BitVec.ofNat 32 (min (age.toNat + 1) (2 ^ 32 - 1))

/-- Every operator's envelope is Idle. -/
def Voice.allIdle (v : Voice) : Bool := (List.finRange 6).all fun i => decide (v.ops[i].env.stage = .idle)

/-- `lifecycle_update(v)` (45_tick.md R183): a Releasing voice context whose six envelopes are all Idle becomes Free. -/
def Voice.reclaim (v : Voice) : Voice :=
  if v.life = .releasing ∧ v.allIdle = true then { v with life := .free } else v

/-- A non-Free voice context after its tick (45_tick.md R181). -/
def tickVoice (c : Config) (p : Params) (v : Voice) : Voice :=
  Voice.reclaim { v with age := ageNext v.age, ops := Vector.ofFn (tickOp c p v (tickOuts c p v)) }

/-- A Free voice context after its tick: its LFOs run, and nothing else does (45_tick.md R182; 42_lfo.md R143). -/
def tickFree (p : Params) (v : Voice) : Voice :=
  { v with ops := Vector.ofFn fun i => { v.ops[i] with lfo := lfoNext p.ops[i] v.ops[i] } }

/-- A voice context after a tick (45_tick.md R180). -/
def voiceAfterTick (c : Config) (p : Params) (v : Voice) : Voice :=
  if v.life = .free then tickFree p v else tickVoice c p v

/-- The sample of a voice context in a tick (44_lut_mixer.md R170): 0 when it is Free at the start of the tick. -/
def voiceSample (c : Config) (p : Params) (v : Voice) : Sample :=
  if v.life = .free then 0#16 else BitVec.ofInt 16 (voiceOut p (tickOuts c p v))

/-- Every voice context after a tick, and the sample vector emitted (45_tick.md R180, R185). -/
def tickAll (s : State) : State :=
  { s with voices := s.voices.map (voiceAfterTick s.cfg s.params) }.emit
    (s.voices.map (voiceSample s.cfg s.params))

/-- TICK (45_tick.md R180). -/
def execTick (s : State) : Host.Outcome State Fault Refusal := .next (tickAll s)

end Sys2Proof.Machine
end

