-- ==== Sys2Proof/Machine/VoiceCommands.lean ====
section
/-! DEFINITION. The voice commands NOTE_ON, NOTE_OFF, VOICE_KILL and READ_VOICE (47_voice_commands.md R210 to R214).
The must-be-zero check of each is the decoder's (30_encoding.md R84, R86). -/

namespace Sys2Proof.Machine

/-- Operator i's context after NOTE_ON (47_voice_commands.md R210; 40_operator.md R112). -/
def noteOnOp (p : OpParams) (o : OpCtx) : OpCtx :=
  { phase := wrap32 p.startPhase
    prev := 0#16
    lfo := lfoRetrigger p o
    env := envStart p o.env }

/-- A voice context after NOTE_ON, whatever it was before: a steal always succeeds (47_voice_commands.md R210). -/
def noteOn (p : Params) (note vel : Nat) (v : Voice) : Voice :=
  { life := .active
    note := BitVec.ofNat 7 note
    vel := BitVec.ofNat 7 vel
    age := 0#32
    ops := Vector.ofFn fun i => noteOnOp p.ops[i] v.ops[i] }

/-- NOTE_ON (47_voice_commands.md R210), the checks in the order of 60_exceptions.md R233. -/
def execNon (voice note vel : Nat) (s : State) : Host.Outcome State Fault Refusal :=
  match s.voice? voice with
  | none => raiseError .badVoice s
  | some v =>
    if 127 < note ∨ 127 < vel then raiseError .badOperand s
    else .next (s.setVoice voice (noteOn s.params note vel v))

/-- A voice context after NOTE_OFF (47_voice_commands.md R211): only an Active one is released, and it is Free at once
when no envelope has a Release to run. -/
def noteOff (p : Params) (v : Voice) : Voice :=
  if v.life = .active then
    Voice.reclaim
      { v with life := .releasing
               ops := Vector.ofFn fun i => { v.ops[i] with env := envRelease p.ops[i] v.ops[i].env } }
  else v

/-- NOTE_OFF (47_voice_commands.md R211). -/
def execNoff (voice : Nat) (s : State) : Host.Outcome State Fault Refusal :=
  match s.voice? voice with
  | none => raiseError .badVoice s
  | some v => .next (s.setVoice voice (noteOff s.params v))

/-- A voice context after VOICE_KILL (47_voice_commands.md R212): Free, its envelopes zeroed; phase, prev, lfo, note, vel
and age keep their values. -/
def voiceKill (v : Voice) : Voice :=
  { v with life := .free, ops := Vector.ofFn fun i => { v.ops[i] with env := envKill v.ops[i].env } }

/-- VOICE_KILL (47_voice_commands.md R212). -/
def execKill (voice : Nat) (s : State) : Host.Outcome State Fault Refusal :=
  match s.voice? voice with
  | none => raiseError .badVoice s
  | some v => .next (s.setVoice voice (voiceKill v))

/-- READ_VOICE (47_voice_commands.md R213): exactly one response, on success and on every error. -/
def execRdv (voice sel : Nat) (s : State) : Host.Outcome State Fault Refusal :=
  match s.voice? voice with
  | none => raiseError .badVoice (s.respond (voiceResponse true voice sel 0#40))
  | some v =>
    match selectorOf sel with
    | none => raiseError .badOperand (s.respond (voiceResponse true voice sel 0#40))
    | some f => .next (s.respond (voiceResponse false voice sel (payload v f)))

end Sys2Proof.Machine
end

