-- ==== Sys2Proof/Machine/Dispatch.lean ====
section
/-! DEFINITION. One arm per command: the meaning of each (spec/opcode_table.json). -/

namespace Sys2Proof.Machine

def exec (i : Instr) (s : State) : Host.Outcome State Fault Refusal :=
  match i with
  | .nop => Sys2Proof.Machine.execNop s
  | .setp id value => Sys2Proof.Machine.execSetp id value s
  | .bedit id => Sys2Proof.Machine.execBedit id s
  | .eedit id => Sys2Proof.Machine.execEedit id s
  | .non voice note vel => Sys2Proof.Machine.execNon voice note vel s
  | .noff voice => Sys2Proof.Machine.execNoff voice s
  | .kill voice => Sys2Proof.Machine.execKill voice s
  | .tick => Sys2Proof.Machine.execTick s
  | .rdp id => Sys2Proof.Machine.execRdp id s
  | .rdv voice sel => Sys2Proof.Machine.execRdv voice sel s

end Sys2Proof.Machine
end

