-- ==== Sys2Proof/Machine/Rejected.lean ====
section
/-! DEFINITION. What the block does with a word that is no command: illegal and reserved words (30_encoding.md R84, R85;
60_exceptions.md R231, R232). -/

namespace Sys2Proof.Machine

/-- ILLEGAL(w) (60_exceptions.md R232): ERR_ILLEGAL_OP, no response, no samples. -/
def execIllegal (s : State) : Host.Outcome State Fault Refusal := raiseError .illegalOp s

/-- A reserved word (30_encoding.md R84): ERR_RESERVED; a READ still emits its one response, with ERR = 1 and the fields
as given (R87, R88). -/
def execReserved (op : Opcode) (w : Word64) (s : State) : Host.Outcome State Fault Refusal :=
  match op with
  | .readParam => raiseError .reserved (s.respond (paramResponse true (idField w) 0#32))
  | .readVoice => raiseError .reserved (s.respond (voiceResponse true (voiceField w) (selField w) 0#40))
  | .nop => raiseError .reserved s
  | .setParam => raiseError .reserved s
  | .beginEdit => raiseError .reserved s
  | .endEdit => raiseError .reserved s
  | .noteOn => raiseError .reserved s
  | .noteOff => raiseError .reserved s
  | .voiceKill => raiseError .reserved s
  | .tick => raiseError .reserved s

end Sys2Proof.Machine
end

