-- ==== Sys2Proof/Machine/Step.lean ====
section
/-! DEFINITION. One step: take the next command word, decode it, run it (00_scope.md R9; 30_encoding.md R86). -/

namespace Sys2Proof.Machine

/-- `step(S, w)` of 00_scope.md R9 for the word w at the head of the command stream. With no word to take the block
waits, its state held (70_reset_and_hazards.md R252; 60_exceptions.md R244). -/
def step (s : State) : Host.Outcome State Fault Refusal :=
  match s.fetch? with
  | none => .next s
  | some (w, t) =>
    match decode w with
    | .illegal => execIllegal t
    | .reserved op => execReserved op w t
    | .command i => exec i t

/-- The state with the word of an opcode-table row put first in the command stream, where `step` takes its next word. -/
def State.withFetchWord (s : State) (nbits w : Nat) : State := { s with input := tableWord nbits w :: s.input }

end Sys2Proof.Machine
end

