-- ==== Sys2Proof/Safety.lean ====
section
/-! DEFINITION. What counts as a good state, in the terms the claims use: the ranges of 10_state.md R24 and Table 10-7,
the invariants of R33, the reserved bits of R29, and the runs of one envelope that 41_envelope.md R127 speaks of. -/

namespace Sys2Proof.Machine

/-- The rows of 10_state.md Table 10-1, in the order of their offsets 0x00 to 0x14. -/
def opFields : List OpField :=
  [.ratioCoarse, .ratioFine, .keytrack, .fixedInc, .octave, .waveform, .startPhase, .envDelay, .envAttack, .envHold,
    .envDecay, .envSustain, .envRelease, .envAmp, .envRatioCoarse, .envRatioFine, .lfoInc, .lfoShape, .lfoRetrig,
    .lfoRatioCoarse, .lfoRatioFine]

/-- "The stored value is an integer, always within [min, max]" (10_state.md R24), for every stored parameter. -/
def Params.inRange (numWaves : Nat) (p : Params) : Prop :=
  ∀ n : ParamName, (paramRow numWaves n).min ≤ p.get n ∧ p.get n ≤ (paramRow numWaves n).max

/-- The stages that end by time: Delay, Attack, Hold, Decay, Release (41_envelope.md R121). -/
def Stage.timed : Stage → Bool
  | .idle => false
  | .delay => true
  | .attack => true
  | .hold => true
  | .decay => true
  | .sustain => false
  | .release => true

/-- The legal values of an envelope (10_state.md Table 10-7): levels of at most 1.0, and a tick count that the next tick
does not overflow (a stage lasts at most 2^24 − 1 ticks) and that is 0 outside the timed stages. -/
def Env.ok (E : Env) : Prop :=
  E.level.toNat ≤ 32768 ∧ E.l0.toNat ≤ 32768 ∧
    (if E.stage.timed then E.k.toNat + 1 < 2 ^ 24 else E.k = 0#24)

/-- The lifecycle invariants of a voice context (10_state.md R33). -/
def Voice.lifeOk (v : Voice) : Prop :=
  match v.life with
  | .free => ∀ i : OpIx, v.ops[i].env.stage = .idle
  | .active => ∀ i : OpIx, v.ops[i].env.stage ≠ .idle ∧ v.ops[i].env.stage ≠ .release
  | .releasing =>
    (∀ i : OpIx, v.ops[i].env.stage = .release ∨ v.ops[i].env.stage = .idle) ∧
      ∃ i : OpIx, v.ops[i].env.stage = .release

/-- A legal voice context (10_state.md Tables 10-6, 10-7, R33). -/
def Voice.ok (v : Voice) : Prop := v.lifeOk ∧ ∀ i : OpIx, v.ops[i].env.ok

/-- The invariant of the machine. -/
structure State.Inv (s : State) : Prop where
  /-- every parameter in its range (10_state.md R24) -/
  params : s.params.inRange s.cfg.numWaves
  /-- STATUS bits 31 to 7 read 0 (10_state.md R29) -/
  status : s.status.toNat < 2 ^ 7
  /-- exactly NUM_VOICES voice contexts (10_state.md R31) -/
  count : s.voices.length = s.cfg.numVoices
  /-- every voice context legal (10_state.md R33) -/
  voices : ∀ v ∈ s.voices, v.ok

/-- The envelope parameters of one operator are in their ranges (10_state.md Table 10-1). -/
def OpParams.envInRange (p : OpParams) : Prop :=
  (0 ≤ p.envDelay ∧ p.envDelay < 2 ^ 24) ∧ (0 ≤ p.envAttack ∧ p.envAttack < 2 ^ 24) ∧
  (0 ≤ p.envHold ∧ p.envHold < 2 ^ 24) ∧ (0 ≤ p.envDecay ∧ p.envDecay < 2 ^ 24) ∧
  (0 ≤ p.envSustain ∧ p.envSustain ≤ 32768) ∧ (0 ≤ p.envRelease ∧ p.envRelease < 2 ^ 24)

/-- An envelope after `n` ticks under constant parameters. -/
def envAfter (p : OpParams) : Nat → Env → Env
  | 0, E => E
  | n + 1, E => envStep p (envAfter p n E)

/-- The level on tick `n + 1`, counted from `E`. -/
def levelAt (p : OpParams) (n : Nat) (E : Env) : Int := envLevel p (envAfter p n E)

/-- The next state of an outcome, if it is one: for tests to compare. -/
def nextState? (o : Host.Outcome State Fault Refusal) : Option State :=
  match o with
  | .next s => some s
  | .fault _ => none
  | .refused _ => none

/-- The STATUS bit of the error a word raises (60_exceptions.md Table 60-1), the first in the order of R233 where several
conditions apply; none where it raises none. CLAMPED (bit 6) is no error. -/
def errorBit (c : Config) : Decoded → Option Nat
  | .illegal => some 0
  | .reserved _ => some 1
  | .command (.setp id _) => if known id = false then some 2 else if id = 0x0F01 then some 3 else none
  | .command (.bedit id) => if known id = false then some 2 else none
  | .command (.eedit id) => if known id = false then some 2 else none
  | .command (.rdp id) => if known id = false then some 2 else none
  | .command (.non v note vel) =>
    if c.numVoices ≤ v then some 4 else if 127 < note ∨ 127 < vel then some 5 else none
  | .command (.noff v) => if c.numVoices ≤ v then some 4 else none
  | .command (.kill v) => if c.numVoices ≤ v then some 4 else none
  | .command (.rdv v sel) => if c.numVoices ≤ v then some 4 else if 37 < sel then some 5 else none
  | .command .nop => none
  | .command .tick => none

/-- What a word that raises an error still sends out (60_exceptions.md R231): the single response of a READ_PARAM or a
READ_VOICE, with ERR = 1, a zero value and the fields as given (30_encoding.md R87, R88). -/
def errorEvents (w : Word64) : List Event :=
  if bits w 63 60 = 0x8 then [.response (paramResponse true (bits w 47 32) 0#32)]
  else if bits w 63 60 = 0x9 then [.response (voiceResponse true (bits w 55 48) (bits w 47 40) 0#40)]
  else []

/-- The event a command emits on each port (30_encoding.md R80): READ_PARAM and READ_VOICE one response, TICK one sample
vector, every other command nothing. -/
def emitsLike : Instr → List Event → Prop
  | .rdp _, es => ∃ w, es = [.response w]
  | .rdv _ _, es => ∃ w, es = [.response w]
  | .tick, es => ∃ vec, es = [.samples vec]
  | .nop, es => es = []
  | .setp _ _, es => es = []
  | .bedit _, es => es = []
  | .eedit _, es => es = []
  | .non _ _ _, es => es = []
  | .noff _, es => es = []
  | .kill _, es => es = []

end Sys2Proof.Machine
end

