-- ==== Sys2Proof/Certificates/Slice0/Obligations.lean ====
section
/-! DEFINITION. The statements for the provers, each from the numbered rules of spec/ that its docstring names. -/

open Sys2Proof Sys2Proof.Machine

/-! ### Encoding -/

/-- Every command whose operands fit their fields is read back from its word with every operand as given
(30_encoding.md R82, R83, R86, Table 30-4). -/
def Obligations.DecodeOfEncode : Prop :=
  ∀ i : Instr, i.wf = true → decode (encode i) = .command i

/-- A word that decodes to a command is the one word of that command: no bit of it is dropped, and no two words mean the
same command (30_encoding.md R82, R86). -/
def Obligations.EncodeOfDecode : Prop :=
  ∀ (w : Word64) (i : Instr), decode w = .command i → i.wf = true ∧ encode i = w

/-- The must-be-zero fields of each command, as the pseudocode of its rule checks them, and its operands
(30_encoding.md R83 to R86; R180, R190, R191, R194 to R196, R210 to R213). -/
def Obligations.DecodeByFields : Prop :=
  ∀ w : Word64,
    (bits w 63 60 = 0x0 → decode w = if bits w 59 0 = 0 then .command .nop else .reserved .nop) ∧
    (bits w 63 60 = 0x1 → decode w =
      if bits w 59 48 = 0 then .command (.setp (bits w 47 32) (BitVec.ofNat 32 (bits w 31 0))) else .reserved .setParam) ∧
    (bits w 63 60 = 0x2 → decode w =
      if bits w 59 48 = 0 ∧ bits w 31 0 = 0 then .command (.bedit (bits w 47 32)) else .reserved .beginEdit) ∧
    (bits w 63 60 = 0x3 → decode w =
      if bits w 59 48 = 0 ∧ bits w 31 0 = 0 then .command (.eedit (bits w 47 32)) else .reserved .endEdit) ∧
    (bits w 63 60 = 0x4 → decode w =
      if bits w 59 56 = 0 ∧ bits w 31 0 = 0 then .command (.non (bits w 55 48) (bits w 47 40) (bits w 39 32))
      else .reserved .noteOn) ∧
    (bits w 63 60 = 0x5 → decode w =
      if bits w 59 56 = 0 ∧ bits w 47 0 = 0 then .command (.noff (bits w 55 48)) else .reserved .noteOff) ∧
    (bits w 63 60 = 0x6 → decode w =
      if bits w 59 56 = 0 ∧ bits w 47 0 = 0 then .command (.kill (bits w 55 48)) else .reserved .voiceKill) ∧
    (bits w 63 60 = 0x7 → decode w = if bits w 59 0 = 0 then .command .tick else .reserved .tick) ∧
    (bits w 63 60 = 0x8 → decode w =
      if bits w 59 48 = 0 ∧ bits w 31 0 = 0 then .command (.rdp (bits w 47 32)) else .reserved .readParam) ∧
    (bits w 63 60 = 0x9 → decode w =
      if bits w 59 56 = 0 ∧ bits w 39 0 = 0 then .command (.rdv (bits w 55 48) (bits w 47 40))
      else .reserved .readVoice) ∧
    (0xA ≤ bits w 63 60 → decode w = .illegal)

/-- Words written out from the spec's encodings (30_encoding.md Table 30-4) decode to the commands they stand for: the
examples of R190, R191, R194 to R196, R180, R210 to R213. -/
def Obligations.SpecWordsDecode : Prop :=
  decode 0x0000_0000_0000_0000#64 = .command .nop ∧
  decode 0x1000_0124_FFFF_FFFB#64 = .command (.setp 0x0124 0xFFFF_FFFB#32) ∧
  decode 0x2000_0103_0000_0000#64 = .command (.bedit 0x0103) ∧
  decode 0x3000_0F02_0000_0000#64 = .command (.eedit 0x0F02) ∧
  decode 0x4000_4064_0000_0000#64 = .command (.non 0 64 100) ∧
  decode 0x5000_0000_0000_0000#64 = .command (.noff 0) ∧
  decode 0x6001_0000_0000_0000#64 = .command (.kill 1) ∧
  decode 0x7000_0000_0000_0000#64 = .command .tick ∧
  decode 0x8000_0124_0000_0000#64 = .command (.rdp 0x0124) ∧
  decode 0x9000_2600_0000_0000#64 = .command (.rdv 0 38)

/-- On a byte transport the eight bytes of a word go least significant first: for every k below 8, byte k holds bits
[8k+7:8k]. The word is read back from its eight bytes (20_memory.md R62). -/
def Obligations.WireBytesRoundTrip : Prop :=
  ∀ (w : Word64) (rest : List Byte),
    (∀ k : Nat, k < 8 → (wireBytes w)[k]? = some (w.extractLsb' (8 * k) 8)) ∧ (wireBytes w).length = 8 ∧
      ofWireBytes (wireBytes w ++ rest) = some (w, rest)

/-- The parameter address map (20_memory.md R65; 10_state.md R25 to R30): the ids are base + stride, each parameter's as a
number (an operator's 21 fields in the order of Table 10-1, an edge's three in that of Table 10-2), and each known id
names one thing, so that every id the map does not list is unknown. -/
def Obligations.IdMapExact : Prop :=
  (∀ i : OpIx,
    opFields.map (fun f => paramId (.op i f)) =
      (List.range 21).map (fun offset => 0x0100 + 0x20 * i.val + offset) ∧
    paramId (.fb i) = 0x0400 + i.val ∧
    paramId (.mix i .level) = 0x0600 + 2 * i.val + 0 ∧ paramId (.mix i .enable) = 0x0600 + 2 * i.val + 1) ∧
  (∀ k : EdgeIx,
    paramId (.edge k .depth) = 0x0500 + 4 * k.val + 0 ∧ paramId (.edge k .enable) = 0x0500 + 4 * k.val + 1 ∧
    paramId (.edge k .mode) = 0x0500 + 4 * k.val + 2) ∧
  paramId .master = 0x0700 ∧
  (∀ n : ParamName, lookupId (paramId n) = some (.param n)) ∧
  lookupId 0x0F00 = some .status ∧ lookupId 0x0F01 = some .config ∧
  (∀ (id : Nat) (n : ParamName), lookupId id = some (.param n) → id = paramId n) ∧
  (∀ id : Nat, lookupId id = some .status → id = 0x0F00) ∧
  (∀ id : Nat, lookupId id = some .config → id = 0x0F01)

/-- The fields of the response words (30_encoding.md R87, R88, Table 30-3). -/
def Obligations.ResponseWordFields : Prop :=
  (∀ (err : Bool) (id : Nat) (rval : Word32), id < 65536 →
    bits (paramResponse err id rval) 63 60 = 0x8 ∧ bits (paramResponse err id rval) 59 57 = 0 ∧
    bits (paramResponse err id rval) 56 56 = err.toNat ∧ bits (paramResponse err id rval) 55 48 = 0 ∧
    bits (paramResponse err id rval) 47 32 = id ∧ bits (paramResponse err id rval) 31 0 = rval.toNat) ∧
  (∀ (err : Bool) (voice sel : Nat) (pay : BitVec 40), voice < 256 → sel < 256 →
    bits (voiceResponse err voice sel pay) 63 60 = 0x9 ∧ bits (voiceResponse err voice sel pay) 59 57 = 0 ∧
    bits (voiceResponse err voice sel pay) 56 56 = err.toNat ∧ bits (voiceResponse err voice sel pay) 55 48 = voice ∧
    bits (voiceResponse err voice sel pay) 47 40 = sel ∧ bits (voiceResponse err voice sel pay) 39 0 = pay.toNat)

/-- CONFIG holds NUM_OPS, NUM_VOICES − 1, NUM_WAVES − 1 and SPEC_REV = 1 in its fields, bits 23 to 20 reading 0, under
every configuration (10_state.md R30). -/
def Obligations.ConfigWordFields : Prop :=
  ∀ c : Config, (configWord c).toNat = 6 + (c.numVoices - 1) * 2 ^ 8 + (c.numWaves - 1) * 2 ^ 16 + 1 * 2 ^ 24

/-! ### The step -/

/-- A step runs the decoded command on the state with its word taken from the stream (00_scope.md R9). That the word is the
first one of `State.input` is the model's choice (notes/assumptions/3.md). -/
def Obligations.StepRunsDecodedCommand : Prop :=
  ∀ (s : State) (w : Word64) (rest : List Word64) (i : Instr),
    s.input = w :: rest → decode w = .command i → step s = exec i { s with input := rest }

/-- An illegal word, OP in 0xA to 0xF, sets STATUS bit 0 and has no other effect, whatever its other bits
(60_exceptions.md R232; 30_encoding.md R85). -/
def Obligations.IllegalWordSetsOneBit : Prop :=
  ∀ (s : State) (w : Word64) (rest : List Word64), s.input = w :: rest → 0xA ≤ bits w 63 60 →
    step s = .next { s with input := rest, status := s.status ||| 0x01#32 }

/-- A reserved word sets STATUS bit 1 and has no other effect, but for the one response, with ERR = 1 and the fields as
given, of a reserved READ_PARAM or READ_VOICE (30_encoding.md R84). -/
def Obligations.ReservedWordSetsOneBit : Prop :=
  ∀ (s : State) (w : Word64) (rest : List Word64) (op : Opcode), s.input = w :: rest → bits w 63 60 = op.code →
    w &&& op.mask ≠ op.matchWord →
    step s = .next { s with
      input := rest
      status := s.status ||| 0x02#32
      out := s.out ++
        (match op with
        | .readParam => [.response (paramResponse true (bits w 47 32) 0#32)]
        | .readVoice => [.response (voiceResponse true (bits w 55 48) (bits w 47 40) 0#40)]
        | _ => []) }

/-- With no command word to take, the block waits and holds its state. The rule says that after reset it waits for the
first command word (70_reset_and_hazards.md R252) and that between commands it holds its state (60_exceptions.md R244);
that a waiting step is a step which changes nothing is the model's choice (notes/assumptions/3.md). -/
def Obligations.StepWaitsForInput : Prop := ∀ s : State, s.input = [] → step s = .next s

/-- Every command word is taken and completes, whatever the state: none is refused, none is dropped, none stops the
block, and each word takes exactly itself from the stream (70_reset_and_hazards.md R261; 60_exceptions.md R230). -/
def Obligations.EveryWordCompletes : Prop :=
  ∀ (s : State) (w : Word64) (rest : List Word64), s.input = w :: rest →
    ∃ t, step s = .next t ∧ t.input = rest ∧ t.cfg = s.cfg

/-- What a command puts on the ports: one response for READ_PARAM and READ_VOICE, one sample vector for TICK, nothing for
any other command, appended after everything emitted before (30_encoding.md R80; 20_memory.md R67). -/
def Obligations.PortDiscipline : Prop :=
  ∀ (i : Instr) (s : State), ∃ t es, exec i s = .next t ∧ t.out = s.out ++ es ∧ emitsLike i es ∧
    t.input = s.input ∧ t.cfg = s.cfg

/-! ### Parameter commands -/

/-- NOP has no effect; the all-zero word is the only NOP word, and any other word with OP = 0 sets STATUS bit 1 and has
no other effect (46_param_commands.md R190). -/
def Obligations.NopWord : Prop :=
  (∀ s : State, exec .nop s = .next s) ∧
  (∀ w : Word64, decode w = .command .nop ↔ w = 0#64) ∧
  (∀ (s : State) (w : Word64) (rest : List Word64), s.input = w :: rest → bits w 63 60 = 0x0 →
    (bits w 59 0 = 0 → step s = .next { s with input := rest }) ∧
    (bits w 59 0 ≠ 0 → step s = .next { s with input := rest, status := s.status ||| 0x02#32 }))

/-- SET_PARAM to a RW parameter stores the signed or unsigned reading of VALUE, clamped to the parameter's range, and sets
CLAMPED exactly when the clamp changed it (or it was set before); every other parameter, every voice context and every
other STATUS bit is unchanged (46_param_commands.md R191, R192; 10_state.md R24). The numbers of `paramRow` are those of
ParameterTable. -/
def Obligations.SetParamStoresClamped : Prop :=
  ∀ (s : State) (id : Nat) (value : Word32) (n : ParamName), lookupId id = some (.param n) →
    ∃ t, exec (.setp id value) s = .next t ∧
      (∃ x y : Int,
        x = (if (paramRow s.cfg.numWaves n).signed then value.toInt else (value.toNat : Int)) ∧
        y = min (paramRow s.cfg.numWaves n).max (max (paramRow s.cfg.numWaves n).min x) ∧
        t.params.get n = y ∧ t.status = if y = x then s.status else s.status ||| 0x40#32) ∧
      (∀ m, m ≠ n → t.params.get m = s.params.get m) ∧
      t.voices = s.voices ∧ t.cfg = s.cfg ∧ t.input = s.input ∧ t.out = s.out

/-- SET_PARAM to STATUS (id 0x0F00) clears bit i (0 ≤ i ≤ 6) exactly where VALUE[i] = 1, sets no bit, ignores bits 31 to
7 of VALUE, and changes nothing else (46_param_commands.md R193). -/
def Obligations.SetParamClearsStatus : Prop :=
  ∀ (s : State) (value : Word32),
    ∃ t, exec (.setp 0x0F00 value) s = .next t ∧
      t.status = s.status &&& ~~~(value &&& 0x7F#32) ∧
      (∀ k : Nat, t.status.getLsbD k = (s.status.getLsbD k && !(decide (k < 7) && value.getLsbD k))) ∧
      t = { s with status := t.status }

/-- SET_PARAM to an unknown id sets STATUS bit 2, and to CONFIG bit 3, and neither changes anything else
(46_param_commands.md R191). -/
def Obligations.SetParamErrors : Prop :=
  (∀ (s : State) (id : Nat) (value : Word32), lookupId id = none →
    exec (.setp id value) s = .next { s with status := s.status ||| 0x04#32 }) ∧
  (∀ (s : State) (value : Word32), exec (.setp 0x0F01 value) s = .next { s with status := s.status ||| 0x08#32 })

/-- BEGIN_EDIT and END_EDIT on a known id, STATUS and CONFIG among them, have no effect; on an unknown id they set STATUS
bit 2 and change nothing else (46_param_commands.md R194, R195). -/
def Obligations.EditMarkersHaveNoEffect : Prop :=
  known 0x0F00 = true ∧ known 0x0F01 = true ∧ ∀ (s : State) (id : Nat),
    (known id = true → exec (.bedit id) s = .next s ∧ exec (.eedit id) s = .next s) ∧
    (known id = false →
      exec (.bedit id) s = .next { s with status := s.status ||| 0x04#32 } ∧
      exec (.eedit id) s = .next { s with status := s.status ||| 0x04#32 })

/-- READ_PARAM responds with the 32-bit pattern of the parameter, of STATUS or of CONFIG, and changes nothing; on an
unknown id it responds with ERR = 1 and value 0 and sets STATUS bit 2 (46_param_commands.md R196; 30_encoding.md R87). -/
def Obligations.ReadParamResponds : Prop :=
  (∀ (s : State) (n : ParamName), exec (.rdp (paramId n)) s =
    .next { s with out := s.out ++ [.response (paramResponse false (paramId n) (BitVec.ofInt 32 (s.params.get n)))] }) ∧
  (∀ s : State, exec (.rdp 0x0F00) s =
    .next { s with out := s.out ++ [.response (paramResponse false 0x0F00 s.status)] }) ∧
  (∀ s : State, exec (.rdp 0x0F01) s =
    .next { s with out := s.out ++ [.response (paramResponse false 0x0F01 (configWord s.cfg))] }) ∧
  (∀ (s : State) (id : Nat), lookupId id = none → exec (.rdp id) s =
    .next { s with status := s.status ||| 0x04#32, out := s.out ++ [.response (paramResponse true id 0#32)] })

/-- A READ_PARAM directly after a SET_PARAM of the same parameter returns the stored, clamped value
(70_reset_and_hazards.md R256). The numbers of `s.row` are those of ParameterTable. -/
def Obligations.ReadAfterWrite : Prop :=
  ∀ (s : State) (n : ParamName) (value : Word32),
    ∃ t u, exec (.setp (paramId n) value) s = .next t ∧ exec (.rdp (paramId n)) t = .next u ∧
      ∃ y : Int, u.out = s.out ++ [.response (paramResponse false (paramId n) (BitVec.ofInt 32 y))] ∧
        y = min (s.row n).max (max (s.row n).min
          (if (s.row n).signed then value.toInt else (value.toNat : Int)))

/-- Two writes of different parameters may be exchanged: both orders end in the same state
(70_reset_and_hazards.md R255). -/
def Obligations.SetParamsCommute : Prop :=
  ∀ (s : State) (m n : ParamName) (a b : Word32), m ≠ n →
    ∃ t₁ t₂ u, exec (.setp (paramId m) a) s = .next t₁ ∧ exec (.setp (paramId n) b) t₁ = .next u ∧
      exec (.setp (paramId n) b) s = .next t₂ ∧ exec (.setp (paramId m) a) t₂ = .next u

/-! ### Voice commands -/

/-- NOTE_ON re-initialises a voice context, busy or not: lifecycle, note, velocity and age; every operator's phase from
START_PHASE, its feedback register to 0, its LFO to 0 where LFO_RETRIG = 1, and its envelope to level 0 in the first
stage with a nonzero duration (47_voice_commands.md R210; 40_operator.md R112; 41_envelope.md R122, R126; 42_lfo.md R142).
Nothing else changes: parameters, STATUS, and the other voice contexts. -/
def Obligations.NoteOnStartsVoice : Prop :=
  ∀ (s : State) (v note vel : Nat) (vc : Voice), v < s.cfg.numVoices → s.voices[v]? = some vc →
    note ≤ 127 → vel ≤ 127 →
    ∃ vc' : Voice, exec (.non v note vel) s = .next { s with voices := s.voices.set v vc' } ∧
      vc'.life = .active ∧ vc'.note.toNat = note ∧ vc'.vel.toNat = vel ∧ vc'.age = 0#32 ∧
      ∀ i : OpIx,
        vc'.ops[i].phase = BitVec.ofInt 32 s.params.ops[i].startPhase ∧
        vc'.ops[i].prev = 0#16 ∧
        vc'.ops[i].lfo = (if s.params.ops[i].lfoRetrig = 1 then 0#32 else vc.ops[i].lfo) ∧
        vc'.ops[i].env.level = 0#16 ∧ vc'.ops[i].env.l0 = 0#16 ∧ vc'.ops[i].env.k = 0#24 ∧
        vc'.ops[i].env.stage =
          (if s.params.ops[i].envDelay ≠ 0 then .delay
           else if s.params.ops[i].envAttack ≠ 0 then .attack
           else if s.params.ops[i].envHold ≠ 0 then .hold
           else if s.params.ops[i].envDecay ≠ 0 then .decay
           else .sustain)

/-- NOTE_OFF to an Active voice context starts every envelope's Release from its last level, or ends it at once where
ENV_RELEASE = 0; the voice context is Releasing, or Free when no envelope has a Release to run. To a Free or Releasing
voice context it has no effect (47_voice_commands.md R211; 41_envelope.md R124). -/
def Obligations.NoteOffReleasesVoice : Prop :=
  ∀ (s : State) (v : Nat) (vc : Voice), v < s.cfg.numVoices → s.voices[v]? = some vc →
    (vc.life ≠ .active → exec (.noff v) s = .next s) ∧
    (vc.life = .active →
      ∃ vc' : Voice, exec (.noff v) s = .next { s with voices := s.voices.set v vc' } ∧
        vc'.note = vc.note ∧ vc'.vel = vc.vel ∧ vc'.age = vc.age ∧
        ((∀ i : OpIx, vc'.ops[i].env.stage = .idle) → vc'.life = .free) ∧
        ((∃ i : OpIx, vc'.ops[i].env.stage ≠ .idle) → vc'.life = .releasing) ∧
        ∀ i : OpIx,
          vc'.ops[i].phase = vc.ops[i].phase ∧ vc'.ops[i].prev = vc.ops[i].prev ∧ vc'.ops[i].lfo = vc.ops[i].lfo ∧
          vc'.ops[i].env =
            (if vc.ops[i].env.stage = .idle ∨ vc.ops[i].env.stage = .release then vc.ops[i].env
             else { stage := if s.params.ops[i].envRelease = 0 then .idle else .release
                    k := 0#24
                    level := vc.ops[i].env.level
                    l0 := vc.ops[i].env.level }))

/-- VOICE_KILL frees a voice context and zeroes its envelopes; phase, prev, lfo, note, vel and age keep their values, and
nothing else changes (47_voice_commands.md R212; 41_envelope.md R125). -/
def Obligations.VoiceKillFreesVoice : Prop :=
  ∀ (s : State) (v : Nat) (vc : Voice), v < s.cfg.numVoices → s.voices[v]? = some vc →
    ∃ vc' : Voice, exec (.kill v) s = .next { s with voices := s.voices.set v vc' } ∧
      vc'.life = .free ∧ vc'.note = vc.note ∧ vc'.vel = vc.vel ∧ vc'.age = vc.age ∧
      ∀ i : OpIx,
        vc'.ops[i].phase = vc.ops[i].phase ∧ vc'.ops[i].prev = vc.ops[i].prev ∧ vc'.ops[i].lfo = vc.ops[i].lfo ∧
        vc'.ops[i].env = { stage := .idle, k := 0#24, level := 0#16, l0 := 0#16 }

/-- READ_VOICE responds with the field its selector names, packed as Table 47-1 says, and changes nothing
(47_voice_commands.md R213, Table 47-1; 30_encoding.md R88). -/
def Obligations.ReadVoiceResponds : Prop :=
  ∀ (s : State) (v sel : Nat) (vc : Voice), v < s.cfg.numVoices → s.voices[v]? = some vc → sel ≤ 37 →
    ∃ pay : BitVec 40,
      exec (.rdv v sel) s = .next { s with out := s.out ++ [.response (voiceResponse false v sel pay)] } ∧
      (sel = 0 → pay.toNat = vc.life.code * 2 ^ 16 + vc.note.toNat * 2 ^ 8 + vc.vel.toNat) ∧
      (sel = 1 → pay.toNat = vc.age.toNat) ∧
      ∀ i : OpIx,
        (sel = 2 + i.val → pay.toNat = vc.ops[i].env.stage.code * 2 ^ 16 + vc.ops[i].env.level.toNat) ∧
        (sel = 8 + i.val → pay.toNat = vc.ops[i].env.k.toNat) ∧
        (sel = 14 + i.val → pay.toNat = vc.ops[i].env.l0.toNat) ∧
        (sel = 20 + i.val → pay.toNat = vc.ops[i].phase.toNat) ∧
        (sel = 26 + i.val → pay.toNat = vc.ops[i].prev.toNat) ∧
        (sel = 32 + i.val → pay.toNat = vc.ops[i].lfo.toNat)

/-- The errors of the voice commands, in the order of 60_exceptions.md R233: a VOICE that is no voice context sets STATUS
bit 4, before NOTE, VEL or SEL is looked at; a NOTE or VEL above 127, or a SEL above 37, sets bit 5. Nothing else changes;
READ_VOICE responds with ERR = 1 and payload 0 (47_voice_commands.md R210 to R213). -/
def Obligations.VoiceCommandErrors : Prop :=
  (∀ (s : State) (v note vel sel : Nat), s.cfg.numVoices ≤ v →
    exec (.non v note vel) s = .next { s with status := s.status ||| 0x10#32 } ∧
    exec (.noff v) s = .next { s with status := s.status ||| 0x10#32 } ∧
    exec (.kill v) s = .next { s with status := s.status ||| 0x10#32 } ∧
    exec (.rdv v sel) s = .next { s with
      status := s.status ||| 0x10#32
      out := s.out ++ [.response (voiceResponse true v sel 0#40)] }) ∧
  (∀ (s : State) (v note vel : Nat) (vc : Voice), v < s.cfg.numVoices → s.voices[v]? = some vc →
    (127 < note ∨ 127 < vel) → exec (.non v note vel) s = .next { s with status := s.status ||| 0x20#32 }) ∧
  (∀ (s : State) (v sel : Nat) (vc : Voice), v < s.cfg.numVoices → s.voices[v]? = some vc → 37 < sel →
    exec (.rdv v sel) s = .next { s with
      status := s.status ||| 0x20#32
      out := s.out ++ [.response (voiceResponse true v sel 0#40)] })

/-! ### Envelope -/

/-- Entering a stage skips every zero-duration stage, resets the tick count, and changes neither the level nor L0; Sustain
and Idle are never skipped (41_envelope.md R122). -/
def Obligations.StageEntrySkipsZeroDurations : Prop :=
  ∀ (p : OpParams) (E : Env) (st : Stage),
    (Env.enter p st E).k = 0#24 ∧ (Env.enter p st E).level = E.level ∧ (Env.enter p st E).l0 = E.l0 ∧
    duration p (Env.enter p st E).stage ≠ some 0 ∧
    (duration p st ≠ some 0 → (Env.enter p st E).stage = st) ∧
    (duration p st = some 0 → (Env.enter p st E).stage = (Env.enter p st.next E).stage)

/-- One tick of an envelope (41_envelope.md R123): the level of each stage, and when a stage is left. -/
def Obligations.EnvelopeStepByStage : Prop :=
  ∀ (p : OpParams) (E : Env),
    (envStep p E).level = BitVec.ofInt 16 (envLevel p E) ∧ (envStep p E).l0 = E.l0 ∧
    (E.stage = .idle → envLevel p E = 0 ∧ (envStep p E).stage = .idle ∧ (envStep p E).k = E.k) ∧
    (E.stage = .sustain →
      envLevel p E = p.envSustain ∧ (envStep p E).stage = .sustain ∧ (envStep p E).k = E.k) ∧
    (E.stage = .delay → envLevel p E = 0) ∧
    (E.stage = .attack → envLevel p E =
      if p.envAttack = 0 then 32768 else 32768 * min ((E.k.toNat : Int) + 1) p.envAttack / p.envAttack) ∧
    (E.stage = .hold → envLevel p E = 32768) ∧
    (E.stage = .decay → envLevel p E =
      if p.envDecay = 0 then p.envSustain
      else 32768 - (32768 - p.envSustain) * min ((E.k.toNat : Int) + 1) p.envDecay / p.envDecay) ∧
    (E.stage = .release → envLevel p E =
      if p.envRelease = 0 then 0
      else (E.l0.toNat : Int) - E.l0.toNat * min ((E.k.toNat : Int) + 1) p.envRelease / p.envRelease) ∧
    (∀ d : Int, duration p E.stage = some d →
      (d ≤ E.k.toNat + 1 →
        (envStep p E).stage = (Env.enter p E.stage.next E).stage ∧ (envStep p E).k = 0#24) ∧
      (E.k.toNat + 1 < d →
        (envStep p E).stage = E.stage ∧ (envStep p E).k = BitVec.ofNat 24 (E.k.toNat + 1)))

/-- The level is always in [0, 32768], and the stored level is the level given (41_envelope.md R123, "Output range"),
for legal envelopes and parameters in range. -/
def Obligations.EnvelopeLevelInRange : Prop :=
  ∀ (p : OpParams) (E : Env), p.envInRange → E.ok →
    0 ≤ envLevel p E ∧ envLevel p E ≤ 32768 ∧ ((envStep p E).level.toNat : Int) = envLevel p E ∧ (envStep p E).ok

/-- With durations and sustain level held constant (41_envelope.md R127): the level never falls from note-on through
Delay, Attack and Hold; it never rises through Decay; after a note-off in any stage the level never rises, and it is 0 on
tick max(1, ENV_RELEASE) after the note-off and on every later tick. The first level after the note-off is at most the
level before it in every stage but Release, which ignores a note-off, as Idle does (R124), so that there the level before
and the level after it are two levels of one Release, which never rises. -/
def Obligations.EnvelopeMonotone : Prop :=
  ∀ (p : OpParams) (E : Env), p.envInRange →
    (∀ n : Nat,
      ((envAfter p (n + 1) (envStart p E)).stage = .delay ∨ (envAfter p (n + 1) (envStart p E)).stage = .attack ∨
        (envAfter p (n + 1) (envStart p E)).stage = .hold →
        levelAt p n (envStart p E) ≤ levelAt p (n + 1) (envStart p E)) ∧
      ((envAfter p n (envStart p E)).stage = .decay →
        levelAt p (n + 1) (envStart p E) ≤ levelAt p n (envStart p E))) ∧
    (E.stage = .idle ∨ E.stage = .release → envRelease p E = E) ∧
    (E.stage ≠ .release → levelAt p 0 (envRelease p E) ≤ E.level.toNat) ∧
    (∀ n : Nat, levelAt p (n + 1) (envRelease p E) ≤ levelAt p n (envRelease p E)) ∧
    (∀ n : Nat, max 1 p.envRelease ≤ n + 1 → levelAt p n (envRelease p E) = 0)

/-! ### Operator, LFO and matrix -/

/-- The pitch exponent and the two parts it splits into stay in their bounds (40_operator.md R102, R103). -/
def Obligations.PitchExponentBounds : Prop :=
  ∀ (numWaves : Nat) (p : Params) (i : OpIx) (e l : Int), p.inRange numWaves →
    0 ≤ e → e ≤ 32768 → -32768 ≤ l → l ≤ 32767 →
    -90110 ≤ pitchExponent p.ops[i] e l ∧ pitchExponent p.ops[i] e l ≤ 90110 ∧
    -22 ≤ expOctave (pitchExponent p.ops[i] e l) ∧ expOctave (pitchExponent p.ops[i] e l) ≤ 21 ∧
    expFrac (pitchExponent p.ops[i] e l) ≤ 4095 ∧
    pitchExponent p.ops[i] e l =
      4096 * expOctave (pitchExponent p.ops[i] e l) + expFrac (pitchExponent p.ops[i] e l)

/-- Whole-octave modulation is exact, under every configuration: a pitch exponent that is a multiple of 4096 gives the
mantissa 65536, and so a phase increment shifted by whole octaves (40_operator.md R103 to R105). -/
def Obligations.WholeOctavesAreExact : Prop :=
  ∀ (c : Config) (p : OpParams) (note : BitVec 7) (m : Int),
    mantissa c (4096 * m) = 65536 ∧
    incKeytracked c p note (4096 * m) = BitVec.ofInt 32 (shift (noteIncAt c note * baseRatio p) (m - 16)) ∧
    incFixed c p (4096 * m) = BitVec.ofInt 32 (shift p.fixedInc m)

/-- The 15 edges are the pairs (s, t) with s < t: the closed form, and its inverse, in which t is the largest integer
with t·(t − 1)/2 ≤ k; no edge has s ≥ t (43_matrix.md R150). -/
def Obligations.EdgeEnumeration : Prop :=
  (∀ s t : OpIx, s < t → (edgeIndex s t).val = t.val * (t.val - 1) / 2 + s.val ∧
    edgeTarget (edgeIndex s t) = t.val ∧ edgeSource (edgeIndex s t) = s.val) ∧
  (∀ k : EdgeIx, edgeSource k < edgeTarget k ∧ edgeTarget k ≤ 5 ∧
    k.val = edgeTarget k * (edgeTarget k - 1) / 2 + edgeSource k ∧
    edgeTarget k * (edgeTarget k - 1) / 2 ≤ k.val ∧ k.val < (edgeTarget k + 1) * edgeTarget k / 2)

/-- A disabled edge makes its target's modulation input, and its output, independent of the source's value
(43_matrix.md R155). -/
def Obligations.DisabledEdgeHasNoInfluence : Prop :=
  ∀ (c : Config) (p : Params) (o : OpCtx) (e : Int) (s t : OpIx) (outs outs' : List Int), s < t →
    p.edges[edgeIndex s t].enable = 0 →
    (∀ r : OpIx, r ≠ s → outAt outs r = outAt outs' r) →
    pmSum p t outs = pmSum p t outs' ∧
    (∀ w : Int, rmChain p t w outs = rmChain p t w outs') ∧
    opOut c p t o e outs = opOut c p t o e outs'

/-- The values and bounds of the modulation matrix (43_matrix.md R152, R153). The phase-modulation sum into a target adds,
of every lower source, outs[s] · DEPTH · 8 where the edge is enabled and of mode 0, and 0 where it is not. The
ring-modulation chain takes the lower sources in ascending order; in one step of it an enabled edge of mode 1 gives
floor(w · fac / 32768), fac = floor(DEPTH · outs[s] / 16384), which leaves the int16 range only for w = −32768 with
fac = −32768 and is then 32767; every other edge leaves w as it is. -/
def Obligations.ModulationBounds : Prop :=
  (∀ (p : Params) (t : OpIx) (outs : List Int),
    pmSum p t outs = ∑ s : OpIx,
      if s < t ∧ p.edges[edgeIndex s t].enable = 1 ∧ p.edges[edgeIndex s t].mode = 0
      then outAt outs s * p.edges[edgeIndex s t].depth * 8 else 0) ∧
  (∀ (p : Params) (t : OpIx) (w : Int) (outs : List Int),
    rmChain p t w outs = [(0 : OpIx), 1, 2, 3, 4, 5].foldl
      (fun w s => if s < t then rmStep p.edges[edgeIndex s t] (outAt outs s) w else w) w) ∧
  (∀ depth o : Int, rmFactor depth o = depth * o / 16384) ∧
  (∀ (numWaves : Nat) (p : Params) (t : OpIx) (outs : List Int), p.inRange numWaves →
    (∀ s : OpIx, -32768 ≤ outAt outs s ∧ outAt outs s ≤ 32767) →
    -(5 * 2 ^ 32) ≤ pmSum p t outs ∧ pmSum p t outs ≤ 5 * 2 ^ 32) ∧
  (∀ depth o : Int, -16384 ≤ depth → depth ≤ 16384 → -32768 ≤ o → o ≤ 32767 →
    -32768 ≤ rmFactor depth o ∧ rmFactor depth o ≤ 32768) ∧
  (∀ (e : EdgeParams) (o w : Int), -16384 ≤ e.depth → e.depth ≤ 16384 → -32768 ≤ o → o ≤ 32767 →
    -32768 ≤ w → w ≤ 32767 →
    (e.enable = 1 ∧ e.mode = 1 →
      (w = -32768 ∧ rmFactor e.depth o = -32768 → rmStep e o w = 32767) ∧
      (¬ (w = -32768 ∧ rmFactor e.depth o = -32768) →
        rmStep e o w = w * rmFactor e.depth o / 32768 ∧
        -32768 ≤ w * rmFactor e.depth o / 32768 ∧ w * rmFactor e.depth o / 32768 ≤ 32767)) ∧
    (¬ (e.enable = 1 ∧ e.mode = 1) → rmStep e o w = w))

/-- An operator's output fits 16 bits, and so does a voice's, whatever the parameters and the tables: the feedback
register and the sample hold them without loss (40_operator.md R109, R111; 44_lut_mixer.md R169). -/
def Obligations.OutputsFitSixteenBits : Prop :=
  ∀ (c : Config) (p : Params) (i : OpIx) (o : OpCtx) (e : Int) (outs : List Int),
    -32768 ≤ opOut c p i o e outs ∧ opOut c p i o e outs ≤ 32767 ∧
    (prevNext (opOut c p i o e outs)).toInt = opOut c p i o e outs ∧
    (BitVec.ofInt 16 (voiceOut p outs)).toInt = voiceOut p outs

/-- The mix (44_lut_mixer.md R168, R169): its value, the sum over the six slots of outs[i] · LEVEL where ENABLE = 1 and of 0
where it is not, floored, scaled by the master level and saturated once; the bounds of the exact sum and of `mixed`; and a
slot that is disabled adds nothing, whatever its LEVEL and its operator's output. -/
def Obligations.MixerBounds : Prop :=
  (∀ (p : Params) (outs : List Int),
    mixAcc p outs = (∑ i : OpIx, if p.mix[i].enable = 1 then outAt outs i * p.mix[i].level else 0) ∧
    mixed p outs = mixAcc p outs / 16384 ∧
    voiceOut p outs = min 32767 (max (-32768) (mixed p outs * p.master / 16384))) ∧
  (∀ (numWaves : Nat) (p : Params) (outs : List Int), p.inRange numWaves →
    (∀ s : OpIx, -32768 ≤ outAt outs s ∧ outAt outs s ≤ 32767) →
    -3221225472 ≤ mixAcc p outs ∧ mixAcc p outs ≤ 3221225472 ∧
    -196608 ≤ mixed p outs ∧ mixed p outs ≤ 196602) ∧
  (∀ (p p' : Params) (outs outs' : List Int), p.master = p'.master →
    (∀ s : OpIx, p.mix[s].enable = p'.mix[s].enable) →
    (∀ s : OpIx, p.mix[s].enable = 1 → p.mix[s].level = p'.mix[s].level ∧ outAt outs s = outAt outs' s) →
    voiceOut p outs = voiceOut p' outs')

/-- With every matrix edge disabled, mixer slot 0 alone enabled, at unit level, and operator 0's envelope at 1.0, the
voice output is operator 0's raw waveform scaled by the master level (44_lut_mixer.md R170; 70_reset_and_hazards.md
R251). -/
def Obligations.OperatorZeroAlone : Prop :=
  ∀ (c : Config) (p : Params) (v : Voice), v.life ≠ .free →
    (∀ k : EdgeIx, p.edges[k].enable = 0) →
    p.mix[(0 : OpIx)].level = 16384 → p.mix[(0 : OpIx)].enable = 1 → (∀ i : OpIx, i ≠ 0 → p.mix[i].enable = 0) →
    envLevel p.ops[(0 : OpIx)] v.ops[(0 : OpIx)].env = 32768 →
    voiceSample c p v =
      BitVec.ofInt 16 (sat16 (waveAt c p.ops[(0 : OpIx)].waveform
        (BitVec.ofInt 32 (v.ops[(0 : OpIx)].phase.toNat + v.ops[(0 : OpIx)].prev.toInt * p.fb[(0 : OpIx)] * 8))
        * p.master / 16384))

/-! ### TICK -/

/-- TICK changes no parameter and no STATUS bit, keeps the number of voice contexts, and emits one vector with one sample
for each of them (45_tick.md R180, R185; 30_encoding.md R89). -/
def Obligations.TickEmitsOneVector : Prop :=
  ∀ s : State, ∃ (vs : List Voice) (vec : List Sample),
    exec .tick s = .next { s with voices := vs, out := s.out ++ [.samples vec] } ∧
      vs.length = s.voices.length ∧ vec.length = s.voices.length

/-- A tick of a Free voice context advances its LFOs and changes nothing else of it, and its sample is 0
(45_tick.md R182). -/
def Obligations.TickOfFreeVoice : Prop :=
  ∀ (s : State) (v : Nat) (vc : Voice), s.voices[v]? = some vc → vc.life = .free →
    ∃ (vs : List Voice) (vec : List Sample) (vc' : Voice),
      exec .tick s = .next { s with voices := vs, out := s.out ++ [.samples vec] } ∧
      vs[v]? = some vc' ∧ vec[v]? = some 0#16 ∧
      vc'.life = .free ∧ vc'.note = vc.note ∧ vc'.vel = vc.vel ∧ vc'.age = vc.age ∧
      ∀ i : OpIx,
        vc'.ops[i].phase = vc.ops[i].phase ∧ vc'.ops[i].prev = vc.ops[i].prev ∧ vc'.ops[i].env = vc.ops[i].env ∧
        vc'.ops[i].lfo = BitVec.ofInt 32 (vc.ops[i].lfo.toNat + s.params.ops[i].lfoInc)

/-- A tick of a non-Free voice context (45_tick.md R181; 40_operator.md R110, R111, R113; 42_lfo.md R140, R141;
43_matrix.md R154): six envelope steps, six LFO reads and advances, the operators in ascending index, each seeing the
outputs of this tick before it, then the mixer and the age. -/
def Obligations.TickOfSoundingVoice : Prop :=
  ∀ (s : State) (v : Nat) (vc : Voice), s.voices[v]? = some vc → vc.life ≠ .free →
    ∃ (vs : List Voice) (vec : List Sample) (vc' : Voice) (outs : List Int),
      exec .tick s = .next { s with voices := vs, out := s.out ++ [.samples vec] } ∧
      vs[v]? = some vc' ∧ vec[v]? = some (BitVec.ofInt 16 (voiceOut s.params outs)) ∧ outs.length = 6 ∧
      vc'.note = vc.note ∧ vc'.vel = vc.vel ∧ vc'.age.toNat = min (vc.age.toNat + 1) (2 ^ 32 - 1) ∧
      ∀ i : OpIx,
        outs[i.val]? = some (opOut s.cfg s.params i vc.ops[i] (envLevel s.params.ops[i] vc.ops[i].env)
          (outs.take i.val)) ∧
        vc'.ops[i].prev.toInt = outAt outs i ∧
        vc'.ops[i].env = envStep s.params.ops[i] vc.ops[i].env ∧
        vc'.ops[i].lfo = BitVec.ofInt 32 (vc.ops[i].lfo.toNat + s.params.ops[i].lfoInc) ∧
        vc'.ops[i].phase = vc.ops[i].phase +
          phaseInc s.cfg s.params.ops[i] vc.note (envLevel s.params.ops[i] vc.ops[i].env)
            (waveAt s.cfg s.params.ops[i].lfoShape vc.ops[i].lfo)

/-- The lifecycle at the end of a tick (45_tick.md R183): an Active voice context stays Active; a Releasing one becomes
Free exactly when every envelope is Idle after its step; a Free one stays Free. -/
def Obligations.TickLifecycle : Prop :=
  ∀ (c : Config) (p : Params) (v : Voice),
    (v.life = .active → (voiceAfterTick c p v).life = .active) ∧
    (v.life = .free → (voiceAfterTick c p v).life = .free) ∧
    (v.life = .releasing →
      ((∀ i : OpIx, (envStep p.ops[i] v.ops[i].env).stage = .idle) → (voiceAfterTick c p v).life = .free) ∧
      ((∃ i : OpIx, (envStep p.ops[i] v.ops[i].env).stage ≠ .idle) → (voiceAfterTick c p v).life = .releasing))

/-- The age counter (45_tick.md R184): each non-Free tick adds 1, saturating at 2^32 − 1; a Free tick leaves it; NOTE_ON
sets it to 0. -/
def Obligations.AgeCounter : Prop :=
  (∀ (c : Config) (p : Params) (v : Voice),
    (v.life ≠ .free → (voiceAfterTick c p v).age.toNat = min (v.age.toNat + 1) (2 ^ 32 - 1)) ∧
    (v.life = .free → (voiceAfterTick c p v).age = v.age)) ∧
  (∀ (s : State) (v note vel : Nat) (vc : Voice), v < s.cfg.numVoices → s.voices[v]? = some vc →
    note ≤ 127 → vel ≤ 127 →
    ∃ t vc', exec (.non v note vel) s = .next t ∧ t.voices[v]? = some vc' ∧ vc'.age = 0#32)

/-- Velocity has no effect on the sound (47_voice_commands.md R210): two voice contexts that differ in it alone give the
same sample and stay equal but for it. -/
def Obligations.VelocityIsInaudible : Prop :=
  ∀ (c : Config) (p : Params) (v : Voice) (vel : BitVec 7),
    voiceSample c p { v with vel := vel } = voiceSample c p v ∧
    voiceAfterTick c p { v with vel := vel } = { voiceAfterTick c p v with vel := vel }

/-- No voice context reads another's state (60_exceptions.md R242; 45_tick.md R185): after a TICK, a voice context and its
sample depend on the configuration, the parameters and that voice context alone. -/
def Obligations.VoicesAreIndependent : Prop :=
  ∀ (s s' : State) (v : Nat), s.cfg = s'.cfg → s.params = s'.params → s.voices[v]? = s'.voices[v]? →
    ∃ t t' vec vec', exec .tick s = .next t ∧ exec .tick s' = .next t' ∧ t.voices[v]? = t'.voices[v]? ∧
      t.out = s.out ++ [.samples vec] ∧ t'.out = s'.out ++ [.samples vec'] ∧ vec[v]? = vec'[v]?

/-! ### The whole machine -/

/-- Every command except TICK is idempotent: twice in a row leaves the parameters, STATUS and the voice contexts as once
does (20_memory.md R64). -/
def Obligations.CommandsAreIdempotent : Prop :=
  ∀ (i : Instr) (s : State), i ≠ .tick →
    ∃ t u, exec i s = .next t ∧ exec i t = .next u ∧
      u.params = t.params ∧ u.status = t.status ∧ u.voices = t.voices ∧ u.cfg = t.cfg

/-- One command word sets at most one STATUS bit (60_exceptions.md R233). -/
def Obligations.AtMostOneStatusBit : Prop :=
  ∀ (s t : State), step s = .next t → ∀ j k : Nat,
    t.status.getLsbD j = true → s.status.getLsbD j = false →
    t.status.getLsbD k = true → s.status.getLsbD k = false → j = k

/-- STATUS bits are sticky: only a SET_PARAM to STATUS clears one (10_state.md R29; 60_exceptions.md R231, R236). -/
def Obligations.StatusBitsAreSticky : Prop :=
  ∀ (s t : State) (w : Word64) (rest : List Word64), s.input = w :: rest → step s = .next t →
    (∀ value : Word32, decode w ≠ .command (.setp 0x0F00 value)) →
    ∀ k : Nat, s.status.getLsbD k = true → t.status.getLsbD k = true

/-- A word that meets an error condition of 60_exceptions.md Table 60-1, the first in the order of R233, sets that error's
STATUS bit, whether or not it stood before, and changes nothing else: no parameter, no voice context, no sample vector.
The one response of a READ_PARAM or READ_VOICE goes out with ERR = 1 and a zero value (R231). Where the bit stood, STATUS
is unchanged. A word that meets no such condition sets none of STATUS bits 0 to 5. The premise that there are NUM_VOICES
voice contexts is part of the invariant (StepKeepsInvariant). -/
def Obligations.ErrorChangesNothingElse : Prop :=
  ∀ (s : State) (w : Word64) (rest : List Word64), s.input = w :: rest → s.voices.length = s.cfg.numVoices →
    (∀ k : Nat, errorBit s.cfg (decode w) = some k →
      k < 6 ∧
      step s = .next { s with
        input := rest
        status := s.status ||| 1#32 <<< k
        out := s.out ++ errorEvents w } ∧
      (s.status.getLsbD k = true → s.status ||| 1#32 <<< k = s.status)) ∧
    (errorBit s.cfg (decode w) = none →
      ∃ t, step s = .next t ∧ ∀ k : Nat, k < 6 → t.status.getLsbD k = true → s.status.getLsbD k = true)

/-- Who writes what (10_state.md Table 10-6; 20_memory.md R60, R64): only SET_PARAM changes a parameter, and only NOTE_ON,
NOTE_OFF, VOICE_KILL and TICK change a voice context. -/
def Obligations.OnlyTheNamedWriters : Prop :=
  ∀ (s t : State) (w : Word64) (rest : List Word64), s.input = w :: rest → step s = .next t →
    (t.params ≠ s.params → ∃ id value, decode w = .command (.setp id value)) ∧
    (t.voices ≠ s.voices → (∃ v note vel, decode w = .command (.non v note vel)) ∨
      (∃ v, decode w = .command (.noff v)) ∨ (∃ v, decode w = .command (.kill v)) ∨ decode w = .command .tick)

/-- NOTE_ON, NOTE_OFF and VOICE_KILL leave every other voice context, every parameter and everything emitted unchanged
(47_voice_commands.md R210 to R212; 60_exceptions.md R242). -/
def Obligations.VoiceCommandsTouchOneVoice : Prop :=
  ∀ (s t : State) (u note vel : Nat),
    exec (.non u note vel) s = .next t ∨ exec (.noff u) s = .next t ∨ exec (.kill u) s = .next t →
    t.params = s.params ∧ t.out = s.out ∧ t.cfg = s.cfg ∧ ∀ v : Nat, v ≠ u → t.voices[v]? = s.voices[v]?

/-- Every step keeps the invariant: parameters in range, STATUS bits 31 to 7 zero, NUM_VOICES voice contexts, each of them
legal with its lifecycle matching its envelopes (10_state.md R24, R29, R31, R33, Tables 10-6, 10-7). -/
def Obligations.StepKeepsInvariant : Prop :=
  ∀ s t : State, s.Inv → step s = .next t → t.Inv

/-- The state after reset meets the invariant, under every configuration (70_reset_and_hazards.md R250). -/
def Obligations.ResetMeetsInvariant : Prop := ∀ c : Config, (State.resetWith c).Inv

/-- Reset gives every state element the value of 70_reset_and_hazards.md R250, under every configuration: the parameters
the `reset` column of 10_state.md Tables 10-1 (in the order of its rows), 10-2 and 10-4 and of R26, and every field of
every voice context its zero. The clause that `out` is empty, which erases the record of what was emitted, is the model's
choice (notes/assumptions/5.md): R250 says that "no response word and no sample vector is pending". -/
def Obligations.ResetValues : Prop :=
  ∀ (s : State),
    (∀ i : OpIx,
      opFields.map (fun f => (applyReset s).params.get (.op i f)) =
        [1, 0, 1, 0, 0, 0, 0, 0, 0, 0, 0, 32768, 0, 1, 0, 0, 0, 0, 0, 0, 0] ∧
      (applyReset s).params.get (.fb i) = 0 ∧
      (applyReset s).params.get (.mix i .level) = (if i = 0 then 16384 else 0) ∧
      (applyReset s).params.get (.mix i .enable) = (if i = 0 then 1 else 0)) ∧
    (∀ k : EdgeIx,
      (applyReset s).params.get (.edge k .depth) = 0 ∧ (applyReset s).params.get (.edge k .enable) = 0 ∧
      (applyReset s).params.get (.edge k .mode) = 0) ∧
    (applyReset s).params.get .master = 16384 ∧
    (∀ n : ParamName, (applyReset s).params.get n = (paramRow s.cfg.numWaves n).reset) ∧
    (applyReset s).status = 0#32 ∧ (applyReset s).cfg = s.cfg ∧ (applyReset s).out = [] ∧
    (applyReset s).voices.length = s.cfg.numVoices ∧
    ∀ vc ∈ (applyReset s).voices,
      vc.life = .free ∧ vc.note = 0#7 ∧ vc.vel = 0#7 ∧ vc.age = 0#32 ∧
      ∀ i : OpIx, vc.ops[i].phase = 0#32 ∧ vc.ops[i].prev = 0#16 ∧ vc.ops[i].lfo = 0#32 ∧
        vc.ops[i].env.stage = .idle ∧ vc.ops[i].env.k = 0#24 ∧ vc.ops[i].env.level = 0#16 ∧ vc.ops[i].env.l0 = 0#16

/-! ### The sample port on a byte transport -/

/-- A sample vector goes in voice order, and each sample least significant byte first: byte 2v + k, k below 2, holds bits
[8k+7:8k] of the sample of voice context v. The vector is read back from its bytes, two a sample (20_memory.md R62;
30_encoding.md R89). -/
def Obligations.SampleBytesRoundTrip : Prop :=
  ∀ (vec : List Sample) (rest : List Byte),
    (∀ v k : Nat, k < 2 → (wireVector vec)[2 * v + k]? = vec[v]?.map fun x => x.extractLsb' (8 * k) 8) ∧
      (wireVector vec).length = 2 * vec.length ∧
      ofWireVector vec.length (wireVector vec ++ rest) = some (vec, rest)

/-! ### The numbers of the tables, and the values of an operator -/

/-- The columns signed, min, max and reset of 10_state.md Tables 10-1 (in the order of its rows), 10-2 and 10-4, and of the
feedback levels (R26), as numbers; NUM_WAVES is that of the configuration. -/
def Obligations.ParameterTable : Prop :=
  ∀ numWaves : Nat,
    (∀ i : OpIx, opFields.map (fun f => paramRow numWaves (.op i f)) =
      [⟨false, 0, 255, 1⟩, ⟨true, -65535, 65535, 0⟩, ⟨false, 0, 1, 1⟩, ⟨false, 0, 4294967295, 0⟩, ⟨true, -4, 4, 0⟩,
       ⟨false, 0, numWaves - 1, 0⟩, ⟨false, 0, 4294967295, 0⟩, ⟨false, 0, 16777215, 0⟩, ⟨false, 0, 16777215, 0⟩,
       ⟨false, 0, 16777215, 0⟩, ⟨false, 0, 16777215, 0⟩, ⟨false, 0, 32768, 32768⟩, ⟨false, 0, 16777215, 0⟩,
       ⟨false, 0, 1, 1⟩, ⟨true, -8, 8, 0⟩, ⟨true, -4095, 4095, 0⟩, ⟨false, 0, 4294967295, 0⟩,
       ⟨false, 0, numWaves - 1, 0⟩, ⟨false, 0, 1, 0⟩, ⟨true, -8, 8, 0⟩, ⟨true, -4095, 4095, 0⟩]) ∧
    (∀ i : OpIx, paramRow numWaves (.fb i) = ⟨true, -16384, 16384, 0⟩) ∧
    (∀ k : EdgeIx, paramRow numWaves (.edge k .depth) = ⟨true, -16384, 16384, 0⟩ ∧
      paramRow numWaves (.edge k .enable) = ⟨false, 0, 1, 0⟩ ∧ paramRow numWaves (.edge k .mode) = ⟨false, 0, 1, 0⟩) ∧
    (∀ i : OpIx, paramRow numWaves (.mix i .level) = ⟨false, 0, 16384, if i = 0 then 16384 else 0⟩ ∧
      paramRow numWaves (.mix i .enable) = ⟨false, 0, 1, if i = 0 then 1 else 0⟩) ∧
    paramRow numWaves .master = ⟨false, 0, 16384, 16384⟩

/-- The phase increment of an operator (40_operator.md R100 to R105): the base ratio clipped at 0, the depths, the pitch
exponent X with each product floored before the sum and OCTAVE counted only where KEYTRACK is not 1, its octave n and
fraction f, and one truncation of the exact product before the 32-bit wrap. Past the end of a table, where no command reads,
the entry is the model's choice (notes/assumptions/8.md). -/
def Obligations.PhaseIncrementValue : Prop :=
  ∀ (c : Config) (p : OpParams) (note : BitVec 7) (e l X n mant : Int),
    X = e * (p.envRatioCoarse * 4096 + p.envRatioFine) / 32768 + l * (p.lfoRatioCoarse * 4096 + p.lfoRatioFine) / 32768 +
      (if p.keytrack = 1 then 0 else p.octave * 4096) →
    n = X / 4096 →
    mant = (c.exp2Frac.getD (X - 4096 * n).toNat 0#32).toNat →
    phaseInc c p note e l = BitVec.ofInt 32
      (if p.keytrack = 1 then
        let t := (c.noteInc.getD note.toNat 0#32).toNat * max 0 (p.ratioCoarse * 65536 + p.ratioFine) * mant
        if 32 ≤ n then t * 2 ^ (n - 32).toNat else t / 2 ^ (32 - n).toNat
      else
        let t := p.fixedInc * mant
        if 16 ≤ n then t * 2 ^ (n - 16).toNat else t / 2 ^ (16 - n).toNat)

/-- The output of an operator (40_operator.md R106 to R109; 44_lut_mixer.md R165): the phase offset by the feedback and by
the phase-modulation sum, wrapped; the lookup at its top 10 bits; the ring-modulation chain; then the envelope, where
ENV_AMP = 1. Past the end of a table, where no command reads, the entry is the model's choice (notes/assumptions/8.md). -/
def Obligations.OperatorOutputValue : Prop :=
  ∀ (c : Config) (p : Params) (i : OpIx) (o : OpCtx) (e : Int) (outs : List Int) (eff : Word32) (w0 w1 : Int),
    eff = BitVec.ofInt 32 ((o.phase.toNat : Int) + o.prev.toInt * p.fb[i] * 8 + pmSum p i outs) →
    w0 = ((c.wave.getD p.ops[i].waveform.toNat []).getD (eff.toNat / 2 ^ 22) 0#16).toInt →
    w1 = rmChain p i w0 outs →
    opOut c p i o e outs = if p.ops[i].envAmp = 1 then min 32767 (max (-32768) (w1 * e / 32768)) else w1
end

