-- ==== Sys2Proof/Laws/Decode.lean ====
section
/-! SUPPORT. A command word as its six fields (30_encoding.md R81, R83): every mask and every encoding is such a join, and
a field of a join is that field. -/

namespace Sys2Proof

/-- The word with OP, RSV, VOICE, bits 47 to 40, bits 39 to 32 and VALUE as given. -/
def joinWord (o r : BitVec 4) (v n l : BitVec 8) (x : Word32) : Word64 := o ++ r ++ v ++ n ++ l ++ x

theorem toNat_append_eq {m n : Nat} (a : BitVec m) (b : BitVec n) : (a ++ b).toNat = a.toNat * 2 ^ n + b.toNat := by
  rw [BitVec.toNat_append, ← Nat.shiftLeft_add_eq_or_of_lt b.isLt, Nat.shiftLeft_eq]

theorem toNat_joinWord (o r : BitVec 4) (v n l : BitVec 8) (x : Word32) :
    (joinWord o r v n l x).toNat =
      ((((o.toNat * 2 ^ 4 + r.toNat) * 2 ^ 8 + v.toNat) * 2 ^ 8 + n.toNat) * 2 ^ 8 + l.toNat) * 2 ^ 32 + x.toNat := by
  simp only [joinWord, toNat_append_eq]

/-- The field `w[lo + len - 1 : lo]` as a vector. -/
def field (w : Word64) (lo len : Nat) : BitVec len := w.extractLsb' lo len

theorem field_toNat (w : Word64) (lo len : Nat) : (field w lo len).toNat = w.toNat / 2 ^ lo % 2 ^ len := by
  simp [field, BitVec.extractLsb'_toNat, Nat.shiftRight_eq_div_pow]

/-- Every word is the join of its fields. -/
theorem joinWord_fields (w : Word64) :
    joinWord (field w 60 4) (field w 56 4) (field w 48 8) (field w 40 8) (field w 32 8) (field w 0 32) = w := by
  apply BitVec.eq_of_toNat_eq
  rw [toNat_joinWord]
  simp only [field_toNat]
  have := w.isLt
  omega

theorem exists_joinWord (w : Word64) : ∃ o r v n l x, w = joinWord o r v n l x :=
  ⟨_, _, _, _, _, _, (joinWord_fields w).symm⟩

theorem joinWord_inj {o o' r r' : BitVec 4} {v v' n n' l l' : BitVec 8} {x x' : Word32} :
    joinWord o r v n l x = joinWord o' r' v' n' l' x' ↔
      o = o' ∧ r = r' ∧ v = v' ∧ n = n' ∧ l = l' ∧ x = x' := by
  refine ⟨fun h => ?_, by rintro ⟨rfl, rfl, rfl, rfl, rfl, rfl⟩; rfl⟩
  have h' := congrArg BitVec.toNat h
  rw [toNat_joinWord, toNat_joinWord] at h'
  have := o.isLt; have := o'.isLt; have := r.isLt; have := r'.isLt; have := v.isLt; have := v'.isLt
  have := n.isLt; have := n'.isLt; have := l.isLt; have := l'.isLt; have := x.isLt; have := x'.isLt
  refine ⟨?_, ?_, ?_, ?_, ?_, ?_⟩ <;> apply BitVec.eq_of_toNat_eq <;> omega

theorem joinWord_and (o o' r r' : BitVec 4) (v v' n n' l l' : BitVec 8) (x x' : Word32) :
    joinWord o r v n l x &&& joinWord o' r' v' n' l' x' =
      joinWord (o &&& o') (r &&& r') (v &&& v') (n &&& n') (l &&& l') (x &&& x') := by
  unfold joinWord
  repeat erw [BitVec.and_append]

theorem joinWord_or (o o' r r' : BitVec 4) (v v' n n' l l' : BitVec 8) (x x' : Word32) :
    joinWord o r v n l x ||| joinWord o' r' v' n' l' x' =
      joinWord (o ||| o') (r ||| r') (v ||| v') (n ||| n') (l ||| l') (x ||| x') := by
  unfold joinWord
  repeat erw [BitVec.or_append]

/-- The masks of 30_encoding.md Table 30-2 by field: a field is fixed or it is free. -/
theorem mask_eq_joinWord (op : Opcode) :
    op.mask = match op with
      | .nop => joinWord 0xF#4 0xF#4 0xFF#8 0xFF#8 0xFF#8 0xFFFF_FFFF#32
      | .setParam => joinWord 0xF#4 0xF#4 0xFF#8 0#8 0#8 0#32
      | .beginEdit => joinWord 0xF#4 0xF#4 0xFF#8 0#8 0#8 0xFFFF_FFFF#32
      | .endEdit => joinWord 0xF#4 0xF#4 0xFF#8 0#8 0#8 0xFFFF_FFFF#32
      | .noteOn => joinWord 0xF#4 0xF#4 0#8 0#8 0#8 0xFFFF_FFFF#32
      | .noteOff => joinWord 0xF#4 0xF#4 0#8 0xFF#8 0xFF#8 0xFFFF_FFFF#32
      | .voiceKill => joinWord 0xF#4 0xF#4 0#8 0xFF#8 0xFF#8 0xFFFF_FFFF#32
      | .tick => joinWord 0xF#4 0xF#4 0xFF#8 0xFF#8 0xFF#8 0xFFFF_FFFF#32
      | .readParam => joinWord 0xF#4 0xF#4 0xFF#8 0#8 0#8 0xFFFF_FFFF#32
      | .readVoice => joinWord 0xF#4 0xF#4 0#8 0#8 0xFF#8 0xFFFF_FFFF#32 := by
  cases op <;> rfl

theorem matchWord_eq_joinWord (op : Opcode) : op.matchWord = joinWord (BitVec.ofNat 4 op.code) 0#4 0#8 0#8 0#8 0#32 := by
  cases op <;> rfl

/-- The opcode field of a join decodes to the opcode it codes. -/
theorem ofCode_eq_some_iff (k : Nat) (op : Opcode) : Opcode.ofCode k = some op ↔ k = op.code := by
  constructor
  · intro h
    unfold Opcode.ofCode at h
    split at h <;> cases h <;> rfl
  · rintro rfl
    cases op <;> rfl

theorem ofCode_eq_none_iff (k : Nat) : Opcode.ofCode k = none ↔ 0xA ≤ k := by
  constructor
  · intro h
    by_contra hk
    have hk : k < 10 := by omega
    interval_cases k <;> cases h
  · intro h
    rcases hc : Opcode.ofCode k with _ | op
    · rfl
    · have := (ofCode_eq_some_iff k op).mp hc
      have : op.code < 10 := by cases op <;> decide
      omega

variable (o r : BitVec 4) (v n l : BitVec 8) (x : Word32)

@[simp] theorem bits_joinWord_op : bits (joinWord o r v n l x) 63 60 = o.toNat := by
  simp only [bits, toNat_joinWord]; omega

@[simp] theorem idField_joinWord : idField (joinWord o r v n l x) = n.toNat * 256 + l.toNat := by
  simp only [idField, bits, toNat_joinWord]; omega

@[simp] theorem voiceField_joinWord : voiceField (joinWord o r v n l x) = v.toNat := by
  simp only [voiceField, bits, toNat_joinWord]; omega

@[simp] theorem noteField_joinWord : noteField (joinWord o r v n l x) = n.toNat := by
  simp only [noteField, bits, toNat_joinWord]; omega

@[simp] theorem velField_joinWord : velField (joinWord o r v n l x) = l.toNat := by
  simp only [velField, bits, toNat_joinWord]; omega

@[simp] theorem selField_joinWord : selField (joinWord o r v n l x) = n.toNat := by
  simp only [selField, bits, toNat_joinWord]; omega

@[simp] theorem valueField_joinWord : valueField (joinWord o r v n l x) = x := by
  apply BitVec.eq_of_toNat_eq
  simp only [valueField, bits, toNat_joinWord, BitVec.toNat_ofNat]; omega

theorem placeId_eq (id : Nat) : placeId id = joinWord 0#4 0#4 0#8 (BitVec.ofNat 8 (id / 256)) (BitVec.ofNat 8 id) 0#32 := by
  apply BitVec.eq_of_toNat_eq
  simp only [placeId, toNat_joinWord, BitVec.toNat_shiftLeft, BitVec.toNat_setWidth, BitVec.toNat_ofNat,
    Nat.shiftLeft_eq]
  omega

theorem placeOp_eq (op : Opcode) : placeOp op = joinWord (BitVec.ofNat 4 op.code) 0#4 0#8 0#8 0#8 0#32 := by
  cases op <;> rfl

theorem placeByte_48 (k : Nat) : placeByte k 48 = joinWord 0#4 0#4 (BitVec.ofNat 8 k) 0#8 0#8 0#32 := by
  apply BitVec.eq_of_toNat_eq
  simp only [placeByte, toNat_joinWord, BitVec.toNat_shiftLeft, BitVec.toNat_setWidth, BitVec.toNat_ofNat,
    Nat.shiftLeft_eq]
  omega

theorem placeByte_40 (k : Nat) : placeByte k 40 = joinWord 0#4 0#4 0#8 (BitVec.ofNat 8 k) 0#8 0#32 := by
  apply BitVec.eq_of_toNat_eq
  simp only [placeByte, toNat_joinWord, BitVec.toNat_shiftLeft, BitVec.toNat_setWidth, BitVec.toNat_ofNat,
    Nat.shiftLeft_eq]
  omega

theorem placeByte_32 (k : Nat) : placeByte k 32 = joinWord 0#4 0#4 0#8 0#8 (BitVec.ofNat 8 k) 0#32 := by
  apply BitVec.eq_of_toNat_eq
  simp only [placeByte, toNat_joinWord, BitVec.toNat_shiftLeft, BitVec.toNat_setWidth, BitVec.toNat_ofNat,
    Nat.shiftLeft_eq]
  omega

theorem value_eq_joinWord : x.setWidth 64 = joinWord 0#4 0#4 0#8 0#8 0#8 x := by
  apply BitVec.eq_of_toNat_eq
  simp only [toNat_joinWord, BitVec.toNat_setWidth, BitVec.toNat_ofNat]
  have := x.isLt
  omega

/-- Every encoding by field (30_encoding.md Table 30-4). -/
theorem encode_eq_joinWord (i : Instr) :
    encode i = match i with
      | .nop => joinWord 0x0#4 0#4 0#8 0#8 0#8 0#32
      | .setp id value => joinWord 0x1#4 0#4 0#8 (BitVec.ofNat 8 (id / 256)) (BitVec.ofNat 8 id) value
      | .bedit id => joinWord 0x2#4 0#4 0#8 (BitVec.ofNat 8 (id / 256)) (BitVec.ofNat 8 id) 0#32
      | .eedit id => joinWord 0x3#4 0#4 0#8 (BitVec.ofNat 8 (id / 256)) (BitVec.ofNat 8 id) 0#32
      | .non voice note vel =>
        joinWord 0x4#4 0#4 (BitVec.ofNat 8 voice) (BitVec.ofNat 8 note) (BitVec.ofNat 8 vel) 0#32
      | .noff voice => joinWord 0x5#4 0#4 (BitVec.ofNat 8 voice) 0#8 0#8 0#32
      | .kill voice => joinWord 0x6#4 0#4 (BitVec.ofNat 8 voice) 0#8 0#8 0#32
      | .tick => joinWord 0x7#4 0#4 0#8 0#8 0#8 0#32
      | .rdp id => joinWord 0x8#4 0#4 0#8 (BitVec.ofNat 8 (id / 256)) (BitVec.ofNat 8 id) 0#32
      | .rdv voice sel => joinWord 0x9#4 0#4 (BitVec.ofNat 8 voice) (BitVec.ofNat 8 sel) 0#8 0#32 := by
  cases i <;>
    simp only [encode, placeOp_eq, placeId_eq, placeByte_48, placeByte_40, placeByte_32, value_eq_joinWord, joinWord_or,
      Opcode.code, BitVec.zero_or, BitVec.or_zero]

/-- Decoding a join whose opcode field codes `op` (30_encoding.md R86). -/
theorem decode_joinWord {op : Opcode} (h : o.toNat = op.code) :
    decode (joinWord o r v n l x) =
      if joinWord o r v n l x &&& op.mask = op.matchWord then .command (operands op (joinWord o r v n l x))
      else .reserved op := by
  simp only [decode, bits_joinWord_op, h, (ofCode_eq_some_iff op.code op).mpr rfl]

theorem and_ones4 (a : BitVec 4) : a &&& 0xF#4 = a := BitVec.and_allOnes
theorem and_ones8 (a : BitVec 8) : a &&& 0xFF#8 = a := BitVec.and_allOnes
theorem and_ones32 (a : Word32) : a &&& 0xFFFF_FFFF#32 = a := BitVec.and_allOnes

/-- A 64-bit number is the sum of its bytes (20_memory.md R62). -/
theorem bytes_sum {y : Nat} (hw : y < 18446744073709551616) :
    ((((((y / 72057594037927936 % 256 * 256 + y / 281474976710656 % 256) * 256 + y / 1099511627776 % 256) * 256 +
      y / 4294967296 % 256) * 256 + y / 16777216 % 256) * 256 + y / 65536 % 256) * 256 + y / 256 % 256) * 256 + y % 256 =
    y := by
  have e : ∀ a b : Nat, y / a / b = y / (a*b) := fun a b => Nat.div_div_eq_div_mul y a b
  have e1 := e 256 256; have e2 := e 65536 256; have e3 := e 16777216 256; have e4 := e 4294967296 256; have e5 := e 1099511627776 256; have e6 := e 281474976710656 256
  simp only [Nat.reduceMul] at e1 e2 e3 e4 e5 e6
  rw [← e6, ← e5, ← e4, ← e3, ← e2, ← e1]
  clear e e1 e2 e3 e4 e5 e6
  have s1 := Nat.div_add_mod y 256
  have s2 := Nat.div_add_mod (y/256) 256
  have s3 := Nat.div_add_mod (y/256/256) 256
  have s4 := Nat.div_add_mod (y/256/256/256) 256
  have s5 := Nat.div_add_mod (y/256/256/256/256) 256
  have s6 := Nat.div_add_mod (y/256/256/256/256/256) 256
  have s7 := Nat.div_add_mod (y/256/256/256/256/256/256) 256
  have s8 : y/256/256/256/256/256/256/256 < 256 := by omega
  rw [Nat.mod_eq_of_lt s8]
  generalize y/256/256/256/256/256/256/256 = a7 at *
  generalize y/256/256/256/256/256/256 % 256 = r6 at *
  generalize y/256/256/256/256/256/256 = a6 at *
  generalize y/256/256/256/256/256 % 256 = r5 at *
  generalize y/256/256/256/256/256 = a5 at *
  generalize y/256/256/256/256 % 256 = r4 at *
  generalize y/256/256/256/256 = a4 at *
  generalize y/256/256/256 % 256 = r3 at *
  generalize y/256/256/256 = a3 at *
  generalize y/256/256 % 256 = r2 at *
  generalize y/256/256 = a2 at *
  generalize y/256 % 256 = r1 at *
  generalize y/256 = a1 at *
  generalize y % 256 = r0 at *
  omega

/-- Eight bytes as a number, the last one most significant. -/
theorem toNat_wordOfBytes (b7 b6 b5 b4 b3 b2 b1 b0 : Byte) :
    (b7 ++ b6 ++ b5 ++ b4 ++ b3 ++ b2 ++ b1 ++ b0 : BitVec 64).toNat =
      ((((((b7.toNat * 2 ^ 8 + b6.toNat) * 2 ^ 8 + b5.toNat) * 2 ^ 8 + b4.toNat) * 2 ^ 8 + b3.toNat) * 2 ^ 8 +
        b2.toNat) * 2 ^ 8 + b1.toNat) * 2 ^ 8 + b0.toNat := by
  simp only [toNat_append_eq]

theorem ofWireBytes_cons (b7 b6 b5 b4 b3 b2 b1 b0 : Byte) (rest : List Byte) :
    ofWireBytes (b0 :: b1 :: b2 :: b3 :: b4 :: b5 :: b6 :: b7 :: rest) =
      some (b7 ++ b6 ++ b5 ++ b4 ++ b3 ++ b2 ++ b1 ++ b0, rest) := rfl

@[simp] theorem wireSample_length (x : Sample) : (wireSample x).length = 2 := rfl

@[simp] theorem wireVector_nil : wireVector [] = [] := rfl

@[simp] theorem wireVector_cons (x : Sample) (vec : List Sample) :
    wireVector (x :: vec) = x.extractLsb' 0 8 :: x.extractLsb' 8 8 :: wireVector vec := rfl

@[simp] theorem ofWireVector_zero (bs : List Byte) : ofWireVector 0 bs = some ([], bs) := rfl

@[simp] theorem ofWireVector_succ (n : Nat) (b0 b1 : Byte) (bs : List Byte) :
    ofWireVector (n + 1) (b0 :: b1 :: bs) = (ofWireVector n bs).map fun r => ((b1 ++ b0) :: r.1, r.2) := rfl

end Sys2Proof
end

