-- ==== Sys2Proof/Laws/Fixed.lean ====
section
/-! SUPPORT. The arithmetic of Machine/Fixed.lean: bounds of saturation, clamp and floor division. -/

namespace Sys2Proof.Machine

theorem clamp_eq (a lo hi : Int) : clamp a lo hi = min hi (max lo a) := rfl

theorem clamp_bounds {lo hi : Int} (h : lo ≤ hi) (a : Int) : lo ≤ clamp a lo hi ∧ clamp a lo hi ≤ hi := by
  unfold clamp; omega

theorem clamp_of_bounds {a lo hi : Int} (h₁ : lo ≤ a) (h₂ : a ≤ hi) : clamp a lo hi = a := by
  unfold clamp; omega

theorem clamp_idem {lo hi : Int} (h : lo ≤ hi) (a : Int) : clamp (clamp a lo hi) lo hi = clamp a lo hi :=
  clamp_of_bounds (clamp_bounds h a).1 (clamp_bounds h a).2

theorem sat16_bounds (a : Int) : -32768 ≤ sat16 a ∧ sat16 a ≤ 32767 := clamp_bounds (by decide) a

theorem sat16_of_bounds {a : Int} (h₁ : -32768 ≤ a) (h₂ : a ≤ 32767) : sat16 a = a := clamp_of_bounds h₁ h₂

theorem floorDiv_eq (a b : Int) : floorDiv a b = a / b := rfl

/-- A quotient by a positive divisor lies between any bounds whose multiples bound the dividend. -/
theorem floorDiv_bounds {a b lo hi : Int} (hb : 0 < b) (h₁ : lo * b ≤ a) (h₂ : a ≤ hi * b) :
    lo ≤ floorDiv a b ∧ floorDiv a b ≤ hi :=
  ⟨(Int.le_ediv_iff_mul_le hb).mpr h₁, Int.ediv_le_of_le_mul hb h₂⟩

/-- The part a ramp has run through after `k` of `d` ticks is between 0 and the whole. -/
theorem ramp_bounds {x k d : Int} (hx : 0 ≤ x) (hk : 0 ≤ k) (hkd : k ≤ d) (hd : 0 < d) :
    0 ≤ floorDiv (x * k) d ∧ floorDiv (x * k) d ≤ x :=
  floorDiv_bounds hd (by simpa using Int.mul_nonneg hx hk) (Int.mul_le_mul_of_nonneg_left hkd hx)

/-- A ramp never runs backwards. -/
theorem ramp_mono {x k k' d : Int} (hx : 0 ≤ x) (hk : k ≤ k') (hd : 0 < d) :
    floorDiv (x * k) d ≤ floorDiv (x * k') d :=
  Int.ediv_le_ediv hd (Int.mul_le_mul_of_nonneg_left hk hx)

/-- A product of bounded factors is bounded. -/
theorem mul_bounds {a b A B : Int} (ha : -A ≤ a) (ha' : a ≤ A) (hb : -B ≤ b) (hb' : b ≤ B) :
    -(A * B) ≤ a * b ∧ a * b ≤ A * B := by
  have h := abs_mul a b
  have hA : |a| ≤ A := abs_le.mpr ⟨ha, ha'⟩
  have hB : |b| ≤ B := abs_le.mpr ⟨hb, hb'⟩
  have := mul_le_mul hA hB (abs_nonneg b) (le_trans (abs_nonneg a) hA)
  rw [← h] at this
  exact abs_le.mp this

/-- Narrowing to 16 bits loses nothing of an int16 value. -/
theorem ofInt16_toInt {a : Int} (h₁ : -32768 ≤ a) (h₂ : a ≤ 32767) : (BitVec.ofInt 16 a).toInt = a := by
  rw [BitVec.toInt_ofInt]
  apply Int.bmod_eq_of_le <;> omega

/-- Narrowing to 16 bits loses nothing of a level. -/
theorem ofInt16_toNat {a : Int} (h₁ : 0 ≤ a) (h₂ : a ≤ 32768) : ((BitVec.ofInt 16 a).toNat : Int) = a := by
  rw [BitVec.toNat_ofInt]
  omega

/-- The two's-complement range of a sample. -/
theorem sample_bounds (x : Sample) : -32768 ≤ x.toInt ∧ x.toInt ≤ 32767 := by
  have h₁ := @BitVec.le_toInt 16 x
  have h₂ := @BitVec.toInt_lt 16 x
  omega

end Sys2Proof.Machine
end

