-- ==== Sys2Proof/Laws/Envelope.lean ====
section
/-! SUPPORT. The envelope: where entering a stage lands, and everything one tick can do. -/

namespace Sys2Proof.Machine

theorem duration_isSome (p : OpParams) (st : Stage) : (duration p st).isSome = st.timed := by cases st <;> rfl

theorem duration_eq_none_iff (p : OpParams) (st : Stage) : duration p st = none ↔ st.timed = false := by
  rw [← duration_isSome p st]; cases duration p st <;> simp

/-- Parameters in range give durations in range. -/
theorem OpParams.envInRange.duration_bounds {p : OpParams} (h : p.envInRange) {st : Stage} {d : Int}
    (hd : duration p st = some d) : 0 ≤ d ∧ d < 2 ^ 24 := by
  obtain ⟨h₁, h₂, h₃, h₄, -, h₆⟩ := h
  cases st <;> simp [duration] at hd <;> subst hd <;> assumption

@[simp] theorem landing_idle (p : OpParams) : landing p .idle = .idle := rfl

@[simp] theorem landing_sustain (p : OpParams) : landing p .sustain = .sustain := rfl

theorem landing_release (p : OpParams) : landing p .release = if p.envRelease = 0 then .idle else .release := by
  simp only [landing, skipStages, duration, Stage.next, Option.some.injEq]
  split <;> rfl

theorem landing_decay (p : OpParams) : landing p .decay = if p.envDecay = 0 then .sustain else .decay := by
  simp only [landing, skipStages, duration, Stage.next, Option.some.injEq]
  split <;> rfl

theorem landing_hold (p : OpParams) : landing p .hold = if p.envHold = 0 then landing p .decay else .hold := by
  rw [landing_decay]
  simp only [landing, skipStages, duration, Stage.next, Option.some.injEq]
  split <;> [split <;> rfl; rfl]

theorem landing_attack (p : OpParams) : landing p .attack = if p.envAttack = 0 then landing p .hold else .attack := by
  rw [landing_hold, landing_decay]
  simp only [landing, skipStages, duration, Stage.next, Option.some.injEq]
  split <;> [split <;> [split <;> rfl; rfl]; rfl]

theorem landing_delay (p : OpParams) : landing p .delay = if p.envDelay = 0 then landing p .attack else .delay := by
  rw [landing_attack, landing_hold, landing_decay]
  simp only [landing, skipStages, duration, Stage.next, Option.some.injEq]
  split <;> [split <;> [split <;> [split <;> rfl; rfl]; rfl]; rfl]

/-- The skip loop has ended: the stage landed in has no zero duration. -/
theorem duration_landing_ne_zero (p : OpParams) (st : Stage) : duration p (landing p st) ≠ some 0 := by
  cases st <;> simp only [landing_delay, landing_attack, landing_hold, landing_decay, landing_release, landing_idle,
    landing_sustain] <;> (repeat' split) <;> simp_all [duration]

/-- The stages a note-on runs through: Delay to Sustain. -/
def Stage.sounding : Stage → Bool
  | .idle => false
  | .delay => true
  | .attack => true
  | .hold => true
  | .decay => true
  | .sustain => true
  | .release => false

theorem Stage.sounding_iff (st : Stage) : st.sounding = true ↔ st ≠ .idle ∧ st ≠ .release := by
  cases st <;> simp [Stage.sounding]

/-- Entering a stage of a note-on never lands in Idle or Release. -/
theorem landing_sounding (p : OpParams) {st : Stage} (h : st.sounding = true) : (landing p st).sounding = true := by
  cases st <;> simp only [landing_delay, landing_attack, landing_hold, landing_decay, landing_sustain, landing_idle,
    landing_release] at h ⊢ <;> (repeat' split) <;> first | rfl | exact h

theorem next_sounding {st : Stage} (h : st.sounding = true) : st.next.sounding = true := by
  cases st <;> simp_all [Stage.sounding, Stage.next]

variable (p : OpParams) (E : Env)

@[simp] theorem enter_stage (st : Stage) : (Env.enter p st E).stage = landing p st := rfl
@[simp] theorem enter_k (st : Stage) : (Env.enter p st E).k = 0#24 := rfl
@[simp] theorem enter_level (st : Stage) : (Env.enter p st E).level = E.level := rfl
@[simp] theorem enter_l0 (st : Stage) : (Env.enter p st E).l0 = E.l0 := rfl

@[simp] theorem envStep_level : (envStep p E).level = BitVec.ofInt 16 (envLevel p E) := by
  unfold envStep
  split
  · rfl
  · split <;> rfl

@[simp] theorem envStep_l0 : (envStep p E).l0 = E.l0 := by
  unfold envStep
  split
  · rfl
  · split <;> rfl

/-- A tick of Idle or Sustain keeps stage and count. -/
theorem envStep_of_untimed (h : duration p E.stage = none) :
    (envStep p E).stage = E.stage ∧ (envStep p E).k = E.k := by
  simp [envStep, h]

/-- A tick that ends a stage enters the next one. -/
theorem envStep_of_over {d : Int} (h : duration p E.stage = some d) (hd : d ≤ (E.k.toNat : Int) + 1) :
    (envStep p E).stage = landing p E.stage.next ∧ (envStep p E).k = 0#24 := by
  simp [envStep, h, hd]

/-- A tick inside a stage counts. -/
theorem envStep_of_running {d : Int} (h : duration p E.stage = some d) (hd : (E.k.toNat : Int) + 1 < d) :
    (envStep p E).stage = E.stage ∧ (envStep p E).k = BitVec.ofNat 24 (E.k.toNat + 1) := by
  simp [envStep, h, Int.not_le.mpr hd]

/-- The stage after a tick: the same, or what entering the next one lands in. -/
theorem envStep_stage_cases :
    (envStep p E).stage = E.stage ∨ (envStep p E).stage = landing p E.stage.next := by
  rcases h : duration p E.stage with _ | d
  · exact .inl (envStep_of_untimed p E h).1
  · rcases lt_or_ge ((E.k.toNat : Int) + 1) d with hd | hd
    · exact .inl (envStep_of_running p E h hd).1
    · exact .inr (envStep_of_over p E h hd).1

/-- A sounding envelope stays sounding through a tick. -/
theorem envStep_sounding (h : E.stage.sounding = true) : (envStep p E).stage.sounding = true := by
  rcases envStep_stage_cases p E with e | e <;> rw [e]
  · exact h
  · exact landing_sounding p (next_sounding h)

/-- A releasing envelope is in Release or Idle after a tick. -/
theorem envStep_releasing (h : E.stage = .release ∨ E.stage = .idle) :
    (envStep p E).stage = .release ∨ (envStep p E).stage = .idle := by
  rcases envStep_stage_cases p E with e | e <;> rw [e]
  · exact h
  · rcases h with h | h <;> rw [h] <;> exact .inr rfl

/-- The level by stage (41_envelope.md R123). -/
theorem envLevel_eq :
    envLevel p E = match E.stage with
      | .idle => 0
      | .delay => 0
      | .attack =>
        if p.envAttack = 0 then 32768
        else floorDiv (32768 * min ((E.k.toNat : Int) + 1) p.envAttack) p.envAttack
      | .hold => 32768
      | .decay =>
        if p.envDecay = 0 then p.envSustain
        else 32768 - floorDiv ((32768 - p.envSustain) * min ((E.k.toNat : Int) + 1) p.envDecay) p.envDecay
      | .sustain => p.envSustain
      | .release =>
        if p.envRelease = 0 then 0
        else (E.l0.toNat : Int) - floorDiv (E.l0.toNat * min ((E.k.toNat : Int) + 1) p.envRelease) p.envRelease := by
  cases h : E.stage <;> simp [envLevel, h, duration, stageLevel]

variable {p E} in
/-- A legal envelope counts without overflow inside a stage. -/
theorem envStep_counts {d : Int} (hE : E.ok) (hd : duration p E.stage = some d) (h : (E.k.toNat : Int) + 1 < d) :
    (envStep p E).stage = E.stage ∧ (envStep p E).k.toNat = E.k.toNat + 1 := by
  obtain ⟨hs, hk⟩ := envStep_of_running p E hd h
  have ht : E.stage.timed = true := by rw [← duration_isSome p, hd]; rfl
  have hlt := hE.2.2
  rw [if_pos ht] at hlt
  exact ⟨hs, by rw [hk, BitVec.toNat_ofNat, Nat.mod_eq_of_lt hlt]⟩

/-- A note-off from a sounding stage lands in Release or Idle (41_envelope.md R124). -/
theorem envRelease_stage {p : OpParams} {E : Env} (h : E.stage.sounding = true) :
    (envRelease p E).stage = .release ∨ (envRelease p E).stage = .idle := by
  unfold envRelease
  split
  · simp_all [Stage.sounding]
  · simp_all [Stage.sounding]
  · simp only [enter_stage, landing_release]
    split <;> simp

/-- The level is in [0, 32768] (41_envelope.md R123), for any count. -/
theorem envLevel_bounds {p : OpParams} {E : Env} (hp : p.envInRange) (hl : E.l0.toNat ≤ 32768) :
    0 ≤ envLevel p E ∧ envLevel p E ≤ 32768 := by
  have hS : 0 ≤ p.envSustain ∧ p.envSustain ≤ 32768 := hp.2.2.2.2.1
  unfold envLevel
  rcases h : duration p E.stage with _ | d
  · cases hst : E.stage <;> simp [hst, duration] at h <;> simp [stageLevel, hS]
  · obtain ⟨hd, -⟩ := hp.duration_bounds h
    have hk : (0 : Int) ≤ min ((E.k.toNat : Int) + 1) d := by omega
    have hkd : min ((E.k.toNat : Int) + 1) d ≤ d := by omega
    cases hst : E.stage <;> simp only [hst, duration, Option.some.injEq, reduceCtorEq] at h <;>
      simp only [stageLevel] <;> (try split) <;> try omega
    · have := ramp_bounds (x := 32768) (by decide) hk hkd (by omega)
      omega
    · have := ramp_bounds (x := 32768 - p.envSustain) (by omega) hk hkd (by omega)
      omega
    · have := ramp_bounds (x := (E.l0.toNat : Int)) (by omega) hk hkd (by omega)
      omega

end Sys2Proof.Machine
end

