-- ==== Sys2Proof/Laws/Flags.lean ====
section
/-! SUPPORT. The bits of STATUS after a set and after a clear. -/

namespace Sys2Proof.Machine

theorem StatusBit.index_lt (b : StatusBit) : b.index < 7 := by cases b <;> decide

theorem getLsbD_mask (b : StatusBit) (k : Nat) : b.mask.getLsbD k = decide (k = b.index) := by
  have h := b.index_lt
  rw [StatusBit.mask, BitVec.getLsbD_shiftLeft, BitVec.getLsbD_one]
  by_cases hk : k = b.index
  · subst hk; simp; omega
  · by_cases hlt : k < b.index
    · simp [hlt, hk]
    · have h1 : ¬ (k - b.index = 0) := by omega
      simp [hlt, hk, h1]

@[simp] theorem getLsbD_setStatus (st : Word32) (b : StatusBit) (k : Nat) :
    (setStatus st b).getLsbD k = (st.getLsbD k || decide (k = b.index)) := by
  rw [setStatus, BitVec.getLsbD_or, getLsbD_mask]

theorem setStatus_idem (st : Word32) (b : StatusBit) : setStatus (setStatus st b) b = setStatus st b := by
  simp [setStatus, BitVec.or_assoc]

theorem setStatus_comm (st : Word32) (b c : StatusBit) :
    setStatus (setStatus st b) c = setStatus (setStatus st c) b := by
  simp only [setStatus, BitVec.or_assoc, BitVec.or_comm b.mask c.mask]

theorem getLsbD_low7 (k : Nat) : (0x7F#32).getLsbD k = decide (k < 7) := by
  have h : (127 : Nat).testBit k = decide (k < 7) := Nat.testBit_two_pow_sub_one 7 k
  rw [BitVec.getLsbD_ofNat, h]
  by_cases hk : k < 7
  · simp [hk]; omega
  · simp [hk]

@[simp] theorem getLsbD_clearStatus (st value : Word32) (k : Nat) :
    (clearStatus st value).getLsbD k = (st.getLsbD k && !(decide (k < 7) && value.getLsbD k)) := by
  rw [clearStatus, BitVec.getLsbD_and, BitVec.getLsbD_not, BitVec.getLsbD_and, getLsbD_low7]
  by_cases hk : k < 32
  · simp [hk, Bool.and_comm]
  · simp [BitVec.getLsbD_of_ge st k (by omega)]

theorem clearStatus_idem (st value : Word32) : clearStatus (clearStatus st value) value = clearStatus st value := by
  simp [clearStatus, BitVec.and_assoc]

/-- The reserved bits stay 0 when a bit is set. -/
theorem setStatus_lt {st : Word32} (h : st.toNat < 2 ^ 7) (b : StatusBit) : (setStatus st b).toNat < 2 ^ 7 := by
  rw [setStatus, BitVec.toNat_or]
  exact Nat.or_lt_two_pow h (by cases b <;> decide)

/-- The reserved bits stay 0 when bits are cleared. -/
theorem clearStatus_lt {st : Word32} (h : st.toNat < 2 ^ 7) (value : Word32) :
    (clearStatus st value).toNat < 2 ^ 7 := by
  rw [clearStatus, BitVec.toNat_and]
  exact lt_of_le_of_lt Nat.and_le_left h

end Sys2Proof.Machine
end

