-- ==== Sys2Proof/Laws/State.lean ====
section
/-! SUPPORT. One lemma per field per update of the state. -/

namespace Sys2Proof.Machine

variable (s : State) (n : ParamName) (x : Int) (v : Nat) (vc : Voice) (b : StatusBit) (w : Word64) (vec : List Sample)

@[simp] theorem writeParam_cfg : (s.writeParam n x).cfg = s.cfg := rfl
@[simp] theorem writeParam_params : (s.writeParam n x).params = s.params.set n x := rfl
@[simp] theorem writeParam_status : (s.writeParam n x).status = s.status := rfl
@[simp] theorem writeParam_voices : (s.writeParam n x).voices = s.voices := rfl
@[simp] theorem writeParam_input : (s.writeParam n x).input = s.input := rfl
@[simp] theorem writeParam_out : (s.writeParam n x).out = s.out := rfl

@[simp] theorem setVoice_cfg : (s.setVoice v vc).cfg = s.cfg := rfl
@[simp] theorem setVoice_params : (s.setVoice v vc).params = s.params := rfl
@[simp] theorem setVoice_status : (s.setVoice v vc).status = s.status := rfl
@[simp] theorem setVoice_voices : (s.setVoice v vc).voices = s.voices.set v vc := rfl
@[simp] theorem setVoice_input : (s.setVoice v vc).input = s.input := rfl
@[simp] theorem setVoice_out : (s.setVoice v vc).out = s.out := rfl

@[simp] theorem flag_cfg : (s.flag b).cfg = s.cfg := rfl
@[simp] theorem flag_params : (s.flag b).params = s.params := rfl
@[simp] theorem flag_status : (s.flag b).status = setStatus s.status b := rfl
@[simp] theorem flag_voices : (s.flag b).voices = s.voices := rfl
@[simp] theorem flag_input : (s.flag b).input = s.input := rfl
@[simp] theorem flag_out : (s.flag b).out = s.out := rfl

@[simp] theorem respond_cfg : (s.respond w).cfg = s.cfg := rfl
@[simp] theorem respond_params : (s.respond w).params = s.params := rfl
@[simp] theorem respond_status : (s.respond w).status = s.status := rfl
@[simp] theorem respond_voices : (s.respond w).voices = s.voices := rfl
@[simp] theorem respond_input : (s.respond w).input = s.input := rfl
@[simp] theorem respond_out : (s.respond w).out = s.out ++ [.response w] := rfl

@[simp] theorem emit_cfg : (s.emit vec).cfg = s.cfg := rfl
@[simp] theorem emit_params : (s.emit vec).params = s.params := rfl
@[simp] theorem emit_status : (s.emit vec).status = s.status := rfl
@[simp] theorem emit_voices : (s.emit vec).voices = s.voices := rfl
@[simp] theorem emit_input : (s.emit vec).input = s.input := rfl
@[simp] theorem emit_out : (s.emit vec).out = s.out ++ [.samples vec] := rfl

@[simp] theorem voice?_flag : (s.flag b).voice? v = s.voice? v := rfl
@[simp] theorem voice?_respond : (s.respond w).voice? v = s.voice? v := rfl

/-- A VOICE operand names a voice context exactly when it is below NUM_VOICES and the context is there. -/
theorem voice?_eq_some_iff : s.voice? v = some vc ↔ v < s.cfg.numVoices ∧ s.voices[v]? = some vc := by
  unfold State.voice?
  split <;> simp_all

theorem voice?_of_bad (h : s.cfg.numVoices ≤ v) : s.voice? v = none := by
  unfold State.voice?
  simp [Nat.not_lt.mpr h]

theorem voice?_of_good (h : v < s.cfg.numVoices) (hv : s.voices[v]? = some vc) : s.voice? v = some vc :=
  (voice?_eq_some_iff s v vc).mpr ⟨h, hv⟩

/-- Writing back what a voice context holds changes nothing. -/
theorem setVoice_self (h : s.voice? v = some vc) : s.setVoice v vc = s := by
  obtain ⟨-, hv⟩ := (voice?_eq_some_iff s v vc).mp h
  obtain ⟨hl, rfl⟩ := List.getElem?_eq_some_iff.mp hv
  simp [State.setVoice]

/-- A voice context written is the one read back. -/
theorem voice?_setVoice {vc' : Voice} (h : s.voice? v = some vc') : (s.setVoice v vc).voice? v = some vc := by
  obtain ⟨hn, hv⟩ := (voice?_eq_some_iff s v vc').mp h
  obtain ⟨hl, -⟩ := List.getElem?_eq_some_iff.mp hv
  exact voice?_of_good _ _ _ hn (by simp [hl])

theorem fetch?_nil (h : s.input = []) : s.fetch? = none := by simp [State.fetch?, h]

theorem fetch?_cons {rest : List Word64} (h : s.input = w :: rest) :
    s.fetch? = some (w, { s with input := rest }) := by simp [State.fetch?, h]

theorem raiseError_eq : raiseError b s = .next (s.flag b) := rfl

end Sys2Proof.Machine
end

