-- ==== Sys2Proof/Laws/Params.lean ====
section
/-! SUPPORT. The parameter file: reading after writing, and the values at reset. -/

namespace Sys2Proof.Machine

theorem OpParams.get_set_same (p : OpParams) (f : OpField) (x : Int) : (p.set f x).get f = x := by cases f <;> rfl

theorem OpParams.get_set_ne (p : OpParams) {f g : OpField} (h : g ≠ f) (x : Int) : (p.set f x).get g = p.get g := by
  cases f <;> cases g <;> first | rfl | exact absurd rfl h

theorem OpParams.get_ofFields (f : OpField → Int) (g : OpField) : (OpParams.ofFields f).get g = f g := by
  cases g <;> rfl

theorem OpParams.ext_get {p q : OpParams} (h : ∀ f, p.get f = q.get f) : p = q := by
  cases p; cases q
  simp only [OpParams.mk.injEq]
  exact ⟨h .ratioCoarse, h .ratioFine, h .keytrack, h .fixedInc, h .octave, h .waveform, h .startPhase, h .envDelay,
    h .envAttack, h .envHold, h .envDecay, h .envSustain, h .envRelease, h .envAmp, h .envRatioCoarse, h .envRatioFine,
    h .lfoInc, h .lfoShape, h .lfoRetrig, h .lfoRatioCoarse, h .lfoRatioFine⟩

theorem EdgeParams.get_set_same (p : EdgeParams) (f : EdgeField) (x : Int) : (p.set f x).get f = x := by
  cases f <;> rfl

theorem EdgeParams.get_set_ne (p : EdgeParams) {f g : EdgeField} (h : g ≠ f) (x : Int) :
    (p.set f x).get g = p.get g := by
  cases f <;> cases g <;> first | rfl | exact absurd rfl h

theorem EdgeParams.ext_get {p q : EdgeParams} (h : ∀ f, p.get f = q.get f) : p = q := by
  cases p; cases q
  simp only [EdgeParams.mk.injEq]
  exact ⟨h .depth, h .enable, h .mode⟩

theorem MixParams.get_set_same (p : MixParams) (f : MixField) (x : Int) : (p.set f x).get f = x := by
  cases f <;> rfl

theorem MixParams.get_set_ne (p : MixParams) {f g : MixField} (h : g ≠ f) (x : Int) :
    (p.set f x).get g = p.get g := by
  cases f <;> cases g <;> first | rfl | exact absurd rfl h

theorem MixParams.ext_get {p q : MixParams} (h : ∀ f, p.get f = q.get f) : p = q := by
  cases p; cases q
  simp only [MixParams.mk.injEq]
  exact ⟨h .level, h .enable⟩

/-- A parameter written reads back as written. -/
@[simp] theorem Params.get_set_same (p : Params) (n : ParamName) (x : Int) : (p.set n x).get n = x := by
  cases n <;> simp [Params.get, Params.set, OpParams.get_set_same, EdgeParams.get_set_same, MixParams.get_set_same]

/-- A write leaves every other parameter alone. -/
theorem Params.get_set_ne (p : Params) {m n : ParamName} (h : m ≠ n) (x : Int) : (p.set n x).get m = p.get m := by
  cases n with
  | op i f =>
    cases m with
    | op j g =>
      by_cases hij : i = j
      · subst hij
        have hg : g ≠ f := fun e => h (by rw [e])
        simp [Params.get, Params.set, OpParams.get_set_ne _ hg]
      · have : (i : Nat) ≠ j := fun e => hij (Fin.ext e)
        simp [Params.get, Params.set, this]
    | _ => rfl
  | fb i =>
    cases m with
    | fb j =>
      have : (i : Nat) ≠ j := fun e => h (by rw [Fin.ext e])
      simp [Params.get, Params.set, this]
    | _ => rfl
  | edge k f =>
    cases m with
    | edge j g =>
      by_cases hij : k = j
      · subst hij
        have hg : g ≠ f := fun e => h (by rw [e])
        simp [Params.get, Params.set, EdgeParams.get_set_ne _ hg]
      · have : (k : Nat) ≠ j := fun e => hij (Fin.ext e)
        simp [Params.get, Params.set, this]
    | _ => rfl
  | mix i f =>
    cases m with
    | mix j g =>
      by_cases hij : i = j
      · subst hij
        have hg : g ≠ f := fun e => h (by rw [e])
        simp [Params.get, Params.set, MixParams.get_set_ne _ hg]
      · have : (i : Nat) ≠ j := fun e => hij (Fin.ext e)
        simp [Params.get, Params.set, this]
    | _ => rfl
  | master =>
    cases m with
    | master => exact absurd rfl h
    | _ => rfl

/-- Two parameter files that read alike everywhere are equal. -/
theorem Params.ext_get {p q : Params} (h : ∀ n, p.get n = q.get n) : p = q := by
  have h₁ : p.ops = q.ops := by
    apply Vector.ext
    intro i hi
    exact OpParams.ext_get fun f => h (.op ⟨i, hi⟩ f)
  have h₂ : p.fb = q.fb := by
    apply Vector.ext
    intro i hi
    exact h (.fb ⟨i, hi⟩)
  have h₃ : p.edges = q.edges := by
    apply Vector.ext
    intro i hi
    exact EdgeParams.ext_get fun f => h (.edge ⟨i, hi⟩ f)
  have h₄ : p.mix = q.mix := by
    apply Vector.ext
    intro i hi
    exact MixParams.ext_get fun f => h (.mix ⟨i, hi⟩ f)
  have h₅ : p.master = q.master := h .master
  cases p; cases q
  simp_all

/-- Writing a parameter twice is writing it once. -/
theorem Params.set_set (p : Params) (n : ParamName) (x y : Int) : (p.set n x).set n y = p.set n y := by
  apply Params.ext_get
  intro m
  by_cases h : m = n
  · subst h; simp
  · simp [Params.get_set_ne _ h]

/-- Writes of different parameters commute. -/
theorem Params.set_comm (p : Params) {m n : ParamName} (h : m ≠ n) (x y : Int) :
    (p.set m x).set n y = (p.set n y).set m x := by
  apply Params.ext_get
  intro r
  by_cases hm : r = m
  · subst hm; simp [Params.get_set_ne _ h]
  · by_cases hn : r = n
    · subst hn; simp [Params.get_set_ne _ (Ne.symm h)]
    · simp [Params.get_set_ne _ hm, Params.get_set_ne _ hn]

theorem Params.get_ofNames (f : ParamName → Int) (n : ParamName) : (Params.ofNames f).get n = f n := by
  cases n with
  | op i g => simp [Params.get, Params.ofNames, OpParams.get_ofFields]
  | fb i => simp [Params.get, Params.ofNames]
  | edge k g => cases g <;> simp [Params.get, Params.ofNames, EdgeParams.get]
  | mix i g => cases g <;> simp [Params.get, Params.ofNames, MixParams.get]
  | master => rfl

/-- Every range is nonempty when there is a wave table: NUM_WAVES ≥ 1. -/
theorem paramRow_min_le_max {nw : Nat} (h : 1 ≤ nw) (n : ParamName) : (paramRow nw n).min ≤ (paramRow nw n).max := by
  rcases n with ⟨-, f⟩ | ⟨-⟩ | ⟨-, f⟩ | ⟨i, f⟩ | _
  · cases f <;> simp [paramRow, opRow, durationRow] <;> omega
  · simp [paramRow]
  · cases f <;> simp [paramRow, edgeRow]
  · cases f <;> simp [paramRow, mixRow]
  · simp [paramRow]

/-- Every reset value lies in its range. -/
theorem paramRow_reset_mem {nw : Nat} (h : 1 ≤ nw) (n : ParamName) :
    (paramRow nw n).min ≤ (paramRow nw n).reset ∧ (paramRow nw n).reset ≤ (paramRow nw n).max := by
  rcases n with ⟨-, f⟩ | ⟨-⟩ | ⟨-, f⟩ | ⟨i, f⟩ | _
  · cases f <;> simp [paramRow, opRow, durationRow] <;> omega
  · simp [paramRow]
  · cases f <;> simp [paramRow, edgeRow]
  · cases f <;> simp [paramRow, mixRow] <;> split <;> simp
  · simp [paramRow]

end Sys2Proof.Machine
end

