-- ==== Sys2Proof/Laws/Matrix.lean ====
section
/-! SUPPORT. The modulation matrix and the operator: which outputs a target reads, and the int16 range of what it gives. -/

namespace Sys2Proof.Machine

@[simp] theorem mem_sources (s t : OpIx) : s ∈ sources t ↔ s < t := by simp [sources]

/-- The phase-modulation sum reads the sources alone, and of a source only its term. -/
theorem pmSum_congr {p : Params} {t : OpIx} {outs outs' : List Int}
    (h : ∀ s, s < t → pmTerm p.edges[edgeIndex s t] (outAt outs s) = pmTerm p.edges[edgeIndex s t] (outAt outs' s)) :
    pmSum p t outs = pmSum p t outs' := by
  unfold pmSum
  congr 1
  apply List.map_congr_left
  intro s hs
  exact h s ((mem_sources s t).mp hs)

/-- The ring-modulation chain reads the sources alone, and of a source only its step. -/
theorem rmChain_congr {p : Params} {t : OpIx} {outs outs' : List Int}
    (h : ∀ s w, s < t → rmStep p.edges[edgeIndex s t] (outAt outs s) w = rmStep p.edges[edgeIndex s t] (outAt outs' s) w)
    (w : Int) : rmChain p t w outs = rmChain p t w outs' := by
  unfold rmChain
  have hs : ∀ s ∈ sources t, s < t := fun s hs => (mem_sources s t).mp hs
  generalize sources t = l at hs
  induction l generalizing w with
  | nil => rfl
  | cons a l ih =>
    simp only [List.foldl_cons]
    rw [h a w (hs a List.mem_cons_self)]
    exact ih _ fun s hs' => hs s (List.mem_cons_of_mem a hs')

/-- An operator reads this tick's outputs of the operators before it, and no other (43_matrix.md R154). -/
theorem opOut_congr {c : Config} {p : Params} {i : OpIx} {o : OpCtx} {e : Int} {outs outs' : List Int}
    (h : ∀ s : OpIx, s < i → outAt outs s = outAt outs' s) : opOut c p i o e outs = opOut c p i o e outs' := by
  have h₁ : pmSum p i outs = pmSum p i outs' := pmSum_congr fun s hs => by rw [h s hs]
  have h₂ := rmChain_congr (p := p) (t := i) (outs := outs) (outs' := outs') fun s w hs => by rw [h s hs]
  simp only [opOut, h₁, h₂]

theorem rmStep_bounds (e : EdgeParams) (o : Int) {w : Int} (hw : -32768 ≤ w ∧ w ≤ 32767) :
    -32768 ≤ rmStep e o w ∧ rmStep e o w ≤ 32767 := by
  unfold rmStep
  split
  · exact sat16_bounds _
  · exact hw

theorem rmChain_bounds (p : Params) (t : OpIx) (outs : List Int) {w : Int} (hw : -32768 ≤ w ∧ w ≤ 32767) :
    -32768 ≤ rmChain p t w outs ∧ rmChain p t w outs ≤ 32767 := by
  unfold rmChain
  generalize sources t = l
  induction l generalizing w with
  | nil => exact hw
  | cons a l ih => exact ih (rmStep_bounds _ _ hw)

theorem waveAt_bounds (c : Config) (sel : Int) (phase : Word32) :
    -32768 ≤ waveAt c sel phase ∧ waveAt c sel phase ≤ 32767 := sample_bounds _

theorem applyEnvelope_bounds (p : OpParams) (e : Int) {w : Int} (hw : -32768 ≤ w ∧ w ≤ 32767) :
    -32768 ≤ applyEnvelope p w e ∧ applyEnvelope p w e ≤ 32767 := by
  unfold applyEnvelope
  split
  · exact sat16_bounds _
  · exact hw

theorem opOut_bounds (c : Config) (p : Params) (i : OpIx) (o : OpCtx) (e : Int) (outs : List Int) :
    -32768 ≤ opOut c p i o e outs ∧ opOut c p i o e outs ≤ 32767 :=
  applyEnvelope_bounds _ _ (rmChain_bounds _ _ _ (waveAt_bounds _ _ _))

/-- What is appended later does not change an output already there. -/
theorem outAt_take (outs : List Int) (s : OpIx) {k : Nat} (h : s.val < k) : outAt (outs.take k) s = outAt outs s := by
  simp [outAt, List.getD_eq_getElem?_getD, h]

end Sys2Proof.Machine
end

