-- ==== Sys2Proof/Laws/Tick.lean ====
section
/-! SUPPORT. One tick of a voice context, and the voice contexts after the voice commands: what each field holds. -/

namespace Sys2Proof.Machine

/-- A list built by appending, each element computed from the elements before it. -/
theorem buildUp_get {α : Type} (g : α → List Int → Int) (l : List α) :
    (l.foldl (fun outs a => outs ++ [g a outs]) []).length = l.length ∧
    ∀ (k : Nat) (a : α), l[k]? = some a →
      (l.foldl (fun outs a => outs ++ [g a outs]) [])[k]? =
        some (g a ((l.foldl (fun outs a => outs ++ [g a outs]) []).take k)) := by
  induction l using List.reverseRecOn with
  | nil => simp
  | append_singleton l x ih =>
    obtain ⟨hlen, hget⟩ := ih
    simp only [List.foldl_append, List.foldl_cons, List.foldl_nil, List.length_append, List.length_cons,
      List.length_nil, hlen]
    refine ⟨trivial, fun k a hk => ?_⟩
    rcases Nat.lt_trichotomy k l.length with h | h | h
    · rw [List.getElem?_append_left (by omega)] at hk ⊢
      rw [hget k a hk, List.take_append_of_le_length (by omega)]
    · subst h
      simp only [List.getElem?_concat_length, Option.some.injEq] at hk
      subst hk
      rw [List.take_append_of_le_length (by omega), ← hlen]
      simp
    · rw [List.getElem?_eq_none (by simp; omega)] at hk
      exact absurd hk (by simp)

variable (c : Config) (p : Params) (v : Voice)

@[simp] theorem tickOuts_length : (tickOuts c p v).length = 6 := by
  have := (buildUp_get (fun i outs => opOut c p i v.ops[i] (tickLevel p v i) outs) (List.finRange 6)).1
  simpa [tickOuts] using this

/-- Operator i's output is computed from the outputs before it (45_tick.md R181). -/
theorem tickOuts_getElem? (i : OpIx) :
    (tickOuts c p v)[i.val]? =
      some (opOut c p i v.ops[i] (tickLevel p v i) ((tickOuts c p v).take i.val)) := by
  have h : (List.finRange 6)[i.val]? = some i := by
    simp
  exact (buildUp_get (fun i outs => opOut c p i v.ops[i] (tickLevel p v i) outs) (List.finRange 6)).2 i.val i h

theorem outAt_tickOuts (i : OpIx) :
    outAt (tickOuts c p v) i = opOut c p i v.ops[i] (tickLevel p v i) ((tickOuts c p v).take i.val) := by
  rw [outAt, List.getD_eq_getElem?_getD, tickOuts_getElem? c p v i, Option.getD_some]

theorem outAt_tickOuts_bounds (i : OpIx) :
    -32768 ≤ outAt (tickOuts c p v) i ∧ outAt (tickOuts c p v) i ≤ 32767 := by
  rw [outAt_tickOuts]; exact opOut_bounds _ _ _ _ _ _

@[simp] theorem reclaim_note : v.reclaim.note = v.note := by unfold Voice.reclaim; split <;> rfl
@[simp] theorem reclaim_vel : v.reclaim.vel = v.vel := by unfold Voice.reclaim; split <;> rfl
@[simp] theorem reclaim_age : v.reclaim.age = v.age := by unfold Voice.reclaim; split <;> rfl
@[simp] theorem reclaim_ops : v.reclaim.ops = v.ops := by unfold Voice.reclaim; split <;> rfl

theorem allIdle_iff : v.allIdle = true ↔ ∀ i : OpIx, v.ops[i].env.stage = .idle := by simp [Voice.allIdle]

/-- Everything `lifecycle_update` can do to the lifecycle (45_tick.md R183). -/
theorem reclaim_life :
    v.reclaim.life = if v.life = .releasing ∧ ∀ i : OpIx, v.ops[i].env.stage = .idle then .free else v.life := by
  unfold Voice.reclaim
  by_cases h : v.life = .releasing ∧ v.allIdle = true
  · rw [if_pos h, if_pos ⟨h.1, (allIdle_iff v).mp h.2⟩]
  · rw [if_neg h, if_neg fun hh => h ⟨hh.1, (allIdle_iff v).mpr hh.2⟩]

@[simp] theorem tickVoice_note : (tickVoice c p v).note = v.note := by simp [tickVoice]
@[simp] theorem tickVoice_vel : (tickVoice c p v).vel = v.vel := by simp [tickVoice]
@[simp] theorem tickVoice_age : (tickVoice c p v).age = ageNext v.age := by simp [tickVoice]

@[simp] theorem tickVoice_op (i : OpIx) : (tickVoice c p v).ops[i] = tickOp c p v (tickOuts c p v) i := by
  simp [tickVoice]

theorem tickVoice_life :
    (tickVoice c p v).life =
      if v.life = .releasing ∧ ∀ i : OpIx, (envStep p.ops[i] v.ops[i].env).stage = .idle then .free else v.life := by
  rw [tickVoice, reclaim_life]
  simp [tickOp]

@[simp] theorem tickFree_life : (tickFree p v).life = v.life := rfl
@[simp] theorem tickFree_note : (tickFree p v).note = v.note := rfl
@[simp] theorem tickFree_vel : (tickFree p v).vel = v.vel := rfl
@[simp] theorem tickFree_age : (tickFree p v).age = v.age := rfl

@[simp] theorem tickFree_op (i : OpIx) :
    (tickFree p v).ops[i] = { v.ops[i] with lfo := lfoNext p.ops[i] v.ops[i] } := by simp [tickFree]

theorem voiceAfterTick_of_free (h : v.life = .free) : voiceAfterTick c p v = tickFree p v := by
  simp [voiceAfterTick, h]

theorem voiceAfterTick_of_not_free (h : v.life ≠ .free) : voiceAfterTick c p v = tickVoice c p v := by
  simp [voiceAfterTick, h]

theorem ageNext_toNat (age : Word32) : (ageNext age).toNat = min (age.toNat + 1) (2 ^ 32 - 1) := by
  have := age.isLt
  rw [ageNext, BitVec.toNat_ofNat]
  omega

/-- The feedback register holds the output without loss (40_operator.md R109, R111). -/
theorem tickOp_prev_toInt (i : OpIx) :
    (tickOp c p v (tickOuts c p v) i).prev.toInt = outAt (tickOuts c p v) i := by
  have h := outAt_tickOuts_bounds c p v i
  exact ofInt16_toInt h.1 h.2

@[simp] theorem noteOn_op (note vel : Nat) (i : OpIx) :
    (noteOn p note vel v).ops[i] = noteOnOp p.ops[i] v.ops[i] := by simp [noteOn]

@[simp] theorem voiceKill_op (i : OpIx) :
    (voiceKill v).ops[i] = { v.ops[i] with env := envKill v.ops[i].env } := by simp [voiceKill]

theorem noteOff_of_not_active (h : v.life ≠ .active) : noteOff p v = v := by simp [noteOff, h]

/-- The fields of an Active voice context after NOTE_OFF (47_voice_commands.md R211). -/
theorem noteOff_of_active (h : v.life = .active) :
    (noteOff p v).note = v.note ∧ (noteOff p v).vel = v.vel ∧ (noteOff p v).age = v.age ∧
    (∀ i : OpIx, (noteOff p v).ops[i] = { v.ops[i] with env := envRelease p.ops[i] v.ops[i].env }) ∧
    (noteOff p v).life =
      if ∀ i : OpIx, (envRelease p.ops[i] v.ops[i].env).stage = .idle then .free else .releasing := by
  rw [noteOff, if_pos h]
  refine ⟨by simp, by simp, by simp, fun i => by simp, ?_⟩
  rw [reclaim_life]
  simp

end Sys2Proof.Machine
end

