-- ==== Sys2Proof/Laws/Exec.lean ====
section
/-! SUPPORT. Everything a command can do, said once: the equations of each meaning by case, and the one inversion of the
step that later proofs split on. -/

namespace Sys2Proof.Machine

variable (s : State)

theorem execSetp_unknown {id : Nat} (h : lookupId id = none) (value : Word32) :
    execSetp id value s = .next (s.flag .unknownId) := by simp [execSetp, h, raiseError_eq]

theorem execSetp_config {id : Nat} (h : lookupId id = some .config) (value : Word32) :
    execSetp id value s = .next (s.flag .readOnly) := by simp [execSetp, h, raiseError_eq]

theorem execSetp_status {id : Nat} (h : lookupId id = some .status) (value : Word32) :
    execSetp id value s = .next { s with status := clearStatus s.status value } := by simp [execSetp, h]

theorem execSetp_param {id : Nat} {n : ParamName} (h : lookupId id = some (.param n)) (value : Word32) :
    execSetp id value s = .next (storeParam n value s) := by simp [execSetp, h]

/-- The value SET_PARAM stores (46_param_commands.md R191, R192). -/
def storedValue (nw : Nat) (n : ParamName) (value : Word32) : Int :=
  clamp (readValue (paramRow nw n).signed value) (paramRow nw n).min (paramRow nw n).max

/-- Whether SET_PARAM clamps (46_param_commands.md R192). -/
def clamps (nw : Nat) (n : ParamName) (value : Word32) : Bool :=
  decide (storedValue nw n value ≠ readValue (paramRow nw n).signed value)

/-- All that the write of a RW parameter does: two fields of the state (46_param_commands.md R191). -/
theorem storeParam_eq (n : ParamName) (value : Word32) :
    storeParam n value s = { s with
      params := s.params.set n (storedValue s.cfg.numWaves n value)
      status := if clamps s.cfg.numWaves n value then setStatus s.status .clamped else s.status } := by
  simp only [storeParam, State.row, storedValue, clamps]
  by_cases h : clamp (readValue (paramRow s.cfg.numWaves n).signed value) (paramRow s.cfg.numWaves n).min
      (paramRow s.cfg.numWaves n).max = readValue (paramRow s.cfg.numWaves n).signed value
  · simp [h, State.writeParam]
  · simp [h, State.writeParam, State.flag]

theorem numWaves_pos (c : Config) : 1 ≤ c.numWaves := by
  have h := c.ok
  simp only [configOk, Bool.and_eq_true, decide_eq_true_eq] at h
  omega

theorem storedValue_mem {nw : Nat} (h : 1 ≤ nw) (n : ParamName) (value : Word32) :
    (paramRow nw n).min ≤ storedValue nw n value ∧ storedValue nw n value ≤ (paramRow nw n).max :=
  clamp_bounds (paramRow_min_le_max h n) _

theorem execNon_bad {v : Nat} (h : s.voice? v = none) (note vel : Nat) :
    execNon v note vel s = .next (s.flag .badVoice) := by simp [execNon, h, raiseError_eq]

theorem execNon_operand {v : Nat} {vc : Voice} (h : s.voice? v = some vc) {note vel : Nat}
    (hb : 127 < note ∨ 127 < vel) : execNon v note vel s = .next (s.flag .badOperand) := by
  simp [execNon, h, hb, raiseError_eq]

theorem execNon_good {v : Nat} {vc : Voice} (h : s.voice? v = some vc) {note vel : Nat}
    (h₁ : note ≤ 127) (h₂ : vel ≤ 127) :
    execNon v note vel s = .next (s.setVoice v (noteOn s.params note vel vc)) := by
  have hb : ¬ (127 < note ∨ 127 < vel) := by omega
  simp [execNon, h, hb]

theorem execNoff_bad {v : Nat} (h : s.voice? v = none) : execNoff v s = .next (s.flag .badVoice) := by
  simp [execNoff, h, raiseError_eq]

theorem execNoff_good {v : Nat} {vc : Voice} (h : s.voice? v = some vc) :
    execNoff v s = .next (s.setVoice v (noteOff s.params vc)) := by simp [execNoff, h]

theorem execKill_bad {v : Nat} (h : s.voice? v = none) : execKill v s = .next (s.flag .badVoice) := by
  simp [execKill, h, raiseError_eq]

theorem execKill_good {v : Nat} {vc : Voice} (h : s.voice? v = some vc) :
    execKill v s = .next (s.setVoice v (voiceKill vc)) := by simp [execKill, h]

theorem checkKnown_known {id : Nat} (h : known id = true) : checkKnown id s = .next s := by simp [checkKnown, h]

theorem checkKnown_unknown {id : Nat} (h : known id = false) : checkKnown id s = .next (s.flag .unknownId) := by
  simp [checkKnown, h, raiseError_eq]

theorem execRdp_unknown {id : Nat} (h : lookupId id = none) :
    execRdp id s = .next ((s.respond (paramResponse true id 0#32)).flag .unknownId) := by
  simp [execRdp, h, raiseError_eq]

theorem execRdp_known {id : Nat} {t : Target} (h : lookupId id = some t) :
    execRdp id s = .next (s.respond (paramResponse false id (s.readTarget t))) := by simp [execRdp, h]

theorem execRdv_bad {v : Nat} (h : s.voice? v = none) (sel : Nat) :
    execRdv v sel s = .next ((s.respond (voiceResponse true v sel 0#40)).flag .badVoice) := by
  simp [execRdv, h, raiseError_eq]

theorem execRdv_operand {v sel : Nat} {vc : Voice} (h : s.voice? v = some vc) (hs : selectorOf sel = none) :
    execRdv v sel s = .next ((s.respond (voiceResponse true v sel 0#40)).flag .badOperand) := by
  simp [execRdv, h, hs, raiseError_eq]

theorem execRdv_good {v sel : Nat} {vc : Voice} {f : Selector} (h : s.voice? v = some vc)
    (hs : selectorOf sel = some f) :
    execRdv v sel s = .next (s.respond (voiceResponse false v sel (payload vc f))) := by simp [execRdv, h, hs]

/-- The error a command or a word can raise (60_exceptions.md Table 60-1). -/
def StatusBit.isError : StatusBit → Bool
  | .illegalOp => true
  | .reserved => true
  | .unknownId => true
  | .readOnly => true
  | .badVoice => true
  | .badOperand => true
  | .clamped => false

/-- The commands that respond (30_encoding.md R80). -/
def responds : Instr → Bool
  | .nop => false
  | .setp _ _ => false
  | .bedit _ => false
  | .eedit _ => false
  | .non _ _ _ => false
  | .noff _ => false
  | .kill _ => false
  | .tick => false
  | .rdp _ => true
  | .rdv _ _ => true

/-- What executing a command leaves, one case a kind of effect. -/
inductive Effect (i : Instr) (s : State) : State → Prop where
  /-- no effect -/
  | nothing (hi : responds i = false) : Effect i s s
  /-- an error is raised -/
  | error (b : StatusBit) (hb : b.isError = true) (hi : responds i = false) : Effect i s (s.flag b)
  /-- an error is raised by a read, which responds first -/
  | errorResponse (b : StatusBit) (hb : b.isError = true) (hi : responds i = true) (w : Word64) :
      Effect i s ((s.respond w).flag b)
  /-- a response -/
  | response (hi : responds i = true) (w : Word64) : Effect i s (s.respond w)
  /-- a parameter is written -/
  | stored (id : Nat) (value : Word32) (n : ParamName) (hi : i = .setp id value) (hn : lookupId id = some (.param n)) :
      Effect i s (storeParam n value s)
  /-- STATUS bits are cleared -/
  | cleared (id : Nat) (value : Word32) (hi : i = .setp id value) (hn : lookupId id = some .status) :
      Effect i s { s with status := clearStatus s.status value }
  /-- a voice context is started -/
  | started (v note vel : Nat) (vc : Voice) (hi : i = .non v note vel) (hv : s.voice? v = some vc)
      (h₁ : note ≤ 127) (h₂ : vel ≤ 127) : Effect i s (s.setVoice v (noteOn s.params note vel vc))
  /-- a voice context is released -/
  | released (v : Nat) (vc : Voice) (hi : i = .noff v) (hv : s.voice? v = some vc) :
      Effect i s (s.setVoice v (noteOff s.params vc))
  /-- a voice context is killed -/
  | killed (v : Nat) (vc : Voice) (hi : i = .kill v) (hv : s.voice? v = some vc) :
      Effect i s (s.setVoice v (voiceKill vc))
  /-- a sample is rendered -/
  | ticked (hi : i = .tick) : Effect i s (tickAll s)

/-- Every command answers a next state, with one of these effects. -/
theorem exec_effect (i : Instr) : ∃ t, exec i s = .next t ∧ Effect i s t := by
  cases i with
  | nop => exact ⟨s, rfl, .nothing rfl⟩
  | setp id value =>
    rcases h : lookupId id with _ | n | _ | _
    · exact ⟨_, execSetp_unknown s h value, .error _ rfl rfl⟩
    · exact ⟨_, execSetp_param s h value, .stored id value n rfl h⟩
    · exact ⟨_, execSetp_status s h value, .cleared id value rfl h⟩
    · exact ⟨_, execSetp_config s h value, .error _ rfl rfl⟩
  | bedit id =>
    rcases h : known id with _ | _
    · exact ⟨_, checkKnown_unknown s h, .error _ rfl rfl⟩
    · exact ⟨_, checkKnown_known s h, .nothing rfl⟩
  | eedit id =>
    rcases h : known id with _ | _
    · exact ⟨_, checkKnown_unknown s h, .error _ rfl rfl⟩
    · exact ⟨_, checkKnown_known s h, .nothing rfl⟩
  | non v note vel =>
    rcases h : s.voice? v with _ | vc
    · exact ⟨_, execNon_bad s h note vel, .error _ rfl rfl⟩
    · by_cases hb : 127 < note ∨ 127 < vel
      · exact ⟨_, execNon_operand s h hb, .error _ rfl rfl⟩
      · exact ⟨_, execNon_good s h (by omega) (by omega), .started v note vel vc rfl h (by omega) (by omega)⟩
  | noff v =>
    rcases h : s.voice? v with _ | vc
    · exact ⟨_, execNoff_bad s h, .error _ rfl rfl⟩
    · exact ⟨_, execNoff_good s h, .released v vc rfl h⟩
  | kill v =>
    rcases h : s.voice? v with _ | vc
    · exact ⟨_, execKill_bad s h, .error _ rfl rfl⟩
    · exact ⟨_, execKill_good s h, .killed v vc rfl h⟩
  | tick => exact ⟨_, rfl, .ticked rfl⟩
  | rdp id =>
    rcases h : lookupId id with _ | t
    · exact ⟨_, execRdp_unknown s h, .errorResponse _ rfl rfl _⟩
    · exact ⟨_, execRdp_known s h, .response rfl _⟩
  | rdv v sel =>
    rcases h : s.voice? v with _ | vc
    · exact ⟨_, execRdv_bad s h sel, .errorResponse _ rfl rfl _⟩
    · rcases hs : selectorOf sel with _ | f
      · exact ⟨_, execRdv_operand s h hs, .errorResponse _ rfl rfl _⟩
      · exact ⟨_, execRdv_good s h hs, .response rfl _⟩

/-- The effect of the next state a command answers. -/
theorem effect_of_exec {i : Instr} {s t : State} (h : exec i s = .next t) : Effect i s t := by
  obtain ⟨u, hu, he⟩ := exec_effect s i
  rw [hu] at h
  injection h with h
  exact h ▸ he

/-- A reserved word raises one error, after a response if it is a read (30_encoding.md R84). -/
theorem execReserved_eq (op : Opcode) (w : Word64) :
    execReserved op w s = .next (s.flag .reserved) ∨ ∃ r, execReserved op w s = .next ((s.respond r).flag .reserved) := by
  cases op <;> first | exact .inl rfl | exact .inr ⟨_, rfl⟩

/-- All a step can do with the next word `w`: an error for a word that is no command, or the effect of the command. -/
theorem step_effect {s t : State} {w : Word64} {rest : List Word64} (hi : s.input = w :: rest)
    (h : step s = .next t) :
    (∃ b, StatusBit.isError b = true ∧
      (t = State.flag { s with input := rest } b ∨ ∃ r, t = State.flag (State.respond { s with input := rest } r) b) ∧
      ∀ i, decode w ≠ .command i) ∨
    (∃ i, decode w = .command i ∧ Effect i { s with input := rest } t) := by
  simp only [step, fetch?_cons s w hi] at h
  rcases hd : decode w with _ | op | i
  · rw [hd] at h
    injection h with h
    exact .inl ⟨.illegalOp, rfl, .inl h.symm, by simp⟩
  · rw [hd] at h
    refine .inl ⟨.reserved, rfl, ?_, by simp⟩
    rcases execReserved_eq { s with input := rest } op w with e | ⟨r, e⟩
    · have h' := e.symm.trans h
      injection h' with h'
      exact .inl h'.symm
    · have h' := e.symm.trans h
      injection h' with h'
      exact .inr ⟨r, h'.symm⟩
  · rw [hd] at h
    exact .inr ⟨i, rfl, effect_of_exec h⟩

end Sys2Proof.Machine
end

