-- ==== Sys2Proof/Laws/Invariant.lean ====
section
/-! SUPPORT. What the voice commands leave is legal: the pieces from which the invariant of the step is built. -/

namespace Sys2Proof.Machine

theorem envStart_ok (p : OpParams) (E : Env) : (envStart p E).ok := by
  refine ⟨by simp [envStart], by simp [envStart], ?_⟩
  split <;> simp [envStart]

theorem envRelease_ok {p : OpParams} {E : Env} (hE : E.ok) : (envRelease p E).ok := by
  unfold envRelease
  split
  · exact hE
  · exact hE
  · refine ⟨hE.1, hE.1, ?_⟩
    split <;> simp

theorem envKill_ok (E : Env) : (envKill E).ok := by simp [envKill, Env.ok, Stage.timed]

/-- Parameters in range give every operator envelope parameters in range. -/
theorem Params.inRange.envInRange {nw : Nat} {p : Params} (h : p.inRange nw) (i : OpIx) : p.ops[i].envInRange := by
  have h₁ := h (.op i .envDelay)
  have h₂ := h (.op i .envAttack)
  have h₃ := h (.op i .envHold)
  have h₄ := h (.op i .envDecay)
  have h₅ := h (.op i .envSustain)
  have h₆ := h (.op i .envRelease)
  simp only [paramRow, opRow, durationRow, Params.get, OpParams.get] at h₁ h₂ h₃ h₄ h₅ h₆
  exact ⟨⟨h₁.1, by omega⟩, ⟨h₂.1, by omega⟩, ⟨h₃.1, by omega⟩, ⟨h₄.1, by omega⟩, h₅, ⟨h₆.1, by omega⟩⟩

/-- NOTE_ON leaves a legal voice context (10_state.md R33). -/
theorem noteOn_ok (p : Params) (note vel : Nat) (v : Voice) : (noteOn p note vel v).ok := by
  refine ⟨?_, fun i => ?_⟩
  · show ∀ i : OpIx, _
    intro i
    rw [noteOn_op]
    exact (Stage.sounding_iff _).mp (landing_sounding p.ops[i] (st := .delay) rfl)
  · rw [noteOn_op]
    exact envStart_ok _ _

/-- NOTE_OFF keeps a voice context legal (10_state.md R33). -/
theorem noteOff_ok {p : Params} {v : Voice} (h : v.ok) : (noteOff p v).ok := by
  by_cases ha : v.life = .active
  · obtain ⟨-, -, -, ho, hl⟩ := noteOff_of_active p v ha
    have hs := h.1
    rw [Voice.lifeOk, ha] at hs
    simp only at hs
    refine ⟨?_, fun i => by rw [ho i]; exact envRelease_ok (h.2 i)⟩
    rw [Voice.lifeOk, hl]
    split_ifs with hc
    · intro i
      rw [ho]
      exact hc i
    · refine ⟨fun i => by rw [ho]; exact envRelease_stage ((Stage.sounding_iff _).mpr (hs i)), ?_⟩
      obtain ⟨i, hi⟩ := not_forall.mp hc
      refine ⟨i, ?_⟩
      rw [ho]
      exact (envRelease_stage ((Stage.sounding_iff _).mpr (hs i))).resolve_right hi
  · rw [noteOff_of_not_active p v ha]
    exact h

/-- VOICE_KILL leaves a legal voice context (10_state.md R33). -/
theorem voiceKill_ok (v : Voice) : (voiceKill v).ok := by
  refine ⟨?_, fun i => ?_⟩
  · show ∀ i : OpIx, _
    intro i
    rw [voiceKill_op]
    rfl
  · rw [voiceKill_op]
    exact envKill_ok v.ops[i].env

end Sys2Proof.Machine
end

