-- ==== Sys2Proof/Laws/Operands.lean ====
section
/-! SUPPORT. The response words by field, and the selectors of READ_VOICE. -/

namespace Sys2Proof.Machine

theorem errBit_eq_joinWord (err : Bool) : errBit err = joinWord 0#4 (BitVec.ofNat 4 err.toNat) 0#8 0#8 0#8 0#32 := by
  cases err <;> rfl

/-- A READ_PARAM response by field (30_encoding.md R87, Table 30-3). -/
theorem paramResponse_eq_joinWord (err : Bool) (id : Nat) (rval : Word32) :
    paramResponse err id rval =
      joinWord 8#4 (BitVec.ofNat 4 err.toNat) 0#8 (BitVec.ofNat 8 (id / 256)) (BitVec.ofNat 8 id) rval := by
  have hid := placeId_eq id
  rw [placeId] at hid
  have hop : (0x8#64 <<< 60) = joinWord 8#4 0#4 0#8 0#8 0#8 0#32 := by rfl
  rw [paramResponse, hid, errBit_eq_joinWord, hop, value_eq_joinWord]
  simp only [joinWord_or, BitVec.zero_or, BitVec.or_zero]

/-- A READ_VOICE response by field (30_encoding.md R88, Table 30-3). -/
theorem voiceResponse_eq_joinWord (err : Bool) (voice sel : Nat) (pay : BitVec 40) :
    voiceResponse err voice sel pay =
      joinWord 9#4 (BitVec.ofNat 4 err.toNat) (BitVec.ofNat 8 voice) (BitVec.ofNat 8 sel)
        (field (pay.setWidth 64) 32 8) (field (pay.setWidth 64) 0 32) := by
  have hv := placeByte_48 voice
  have hs := placeByte_40 sel
  rw [placeByte] at hv hs
  have hop : (0x9#64 <<< 60) = joinWord 9#4 0#4 0#8 0#8 0#8 0#32 := by rfl
  have hpay : pay.setWidth 64 =
      joinWord 0#4 0#4 0#8 0#8 (field (pay.setWidth 64) 32 8) (field (pay.setWidth 64) 0 32) := by
    apply BitVec.eq_of_toNat_eq
    simp only [toNat_joinWord, BitVec.toNat_ofNat, field_toNat, BitVec.toNat_setWidth]
    have := pay.isLt
    omega
  rw [voiceResponse, hs, errBit_eq_joinWord, hop, hv]
  conv => lhs; rw [hpay]
  simp only [joinWord_or, BitVec.zero_or, BitVec.or_zero]

theorem selectorOf_eq_none_iff (sel : Nat) : selectorOf sel = none ↔ 37 < sel := by
  unfold selectorOf
  split_ifs <;> simp <;> omega

end Sys2Proof.Machine
end

