-- ==== Sys2Proof/Laws/ParamMap.lean ====
section
/-! SUPPORT. Identifier arithmetic, read backwards: the offsets of the rows that the id decoder finds. -/

namespace Sys2Proof.Machine

theorem opFieldOf_some {m : Nat} {f : OpField} (h : opFieldOf m = some f) : m = opFieldOffset f := by
  unfold opFieldOf at h
  split at h <;> cases h <;> rfl

@[simp] theorem opFieldOf_offset (f : OpField) : opFieldOf (opFieldOffset f) = some f := by cases f <;> rfl

theorem edgeFieldOf_some {m : Nat} {f : EdgeField} (h : edgeFieldOf m = some f) : m = edgeFieldOffset f := by
  unfold edgeFieldOf at h
  split at h <;> cases h <;> rfl

@[simp] theorem edgeFieldOf_offset (f : EdgeField) : edgeFieldOf (edgeFieldOffset f) = some f := by cases f <;> rfl

theorem mixFieldOf_offset (m : Nat) : mixFieldOffset (mixFieldOf (m % 2)) = m % 2 := by
  rcases Nat.mod_two_eq_zero_or_one m with e | e <;> rw [e] <;> rfl

theorem known_iff (id : Nat) : known id = true ↔ ∃ t, lookupId id = some t := by
  rw [known, Option.isSome_iff_exists]

theorem known_eq_false_iff (id : Nat) : known id = false ↔ lookupId id = none := by
  rw [known, Option.isSome_eq_false_iff, Option.isNone_iff_eq_none]

end Sys2Proof.Machine
end

