-- ==== Sys2Proof/Laws/PerInstr.lean ====
section
/-! SUPPORT. Statements about each command as syntax, one lemma per constructor (LAWS.json). -/

namespace Sys2Proof

/-- A word masked by field, for the per-command lemmas. -/
theorem encode_and_mask {i : Instr} {o r : BitVec 4} {v n l : BitVec 8} {x : Word32} {o' r' : BitVec 4}
    {v' n' l' : BitVec 8} {x' : Word32} {m : Word64} (he : encode i = joinWord o r v n l x)
    (hm : i.opcode.mask = joinWord o' r' v' n' l' x')
    (h : joinWord (o &&& o') (r &&& r') (v &&& v') (n &&& n') (l &&& l') (x &&& x') = m) :
    encode i &&& i.opcode.mask = m := by
  rw [he, hm, joinWord_and]; exact h

end Sys2Proof

namespace Sys2Proof.Laws.EncodeFixed

/-- The fixed bits of the encoding are those of Table 30-2, the must-be-zero bits among them, whatever the operands
(30_encoding.md R82, R83). -/
def Statement (i : Instr) : Prop := encode i &&& i.opcode.mask = i.opcode.matchWord

theorem nop : Statement .nop := by rw [Statement]; rfl

theorem setp (id : Nat) (value : Word32) : Statement (.setp id value) :=
  encode_and_mask (encode_eq_joinWord _) (mask_eq_joinWord _) (by simp; rfl)

theorem bedit (id : Nat) : Statement (.bedit id) :=
  encode_and_mask (encode_eq_joinWord _) (mask_eq_joinWord _) (by simp; rfl)

theorem eedit (id : Nat) : Statement (.eedit id) :=
  encode_and_mask (encode_eq_joinWord _) (mask_eq_joinWord _) (by simp; rfl)

theorem non (voice note vel : Nat) : Statement (.non voice note vel) :=
  encode_and_mask (encode_eq_joinWord _) (mask_eq_joinWord _) (by simp; rfl)

theorem noff (voice : Nat) : Statement (.noff voice) :=
  encode_and_mask (encode_eq_joinWord _) (mask_eq_joinWord _) (by simp; rfl)

theorem kill (voice : Nat) : Statement (.kill voice) :=
  encode_and_mask (encode_eq_joinWord _) (mask_eq_joinWord _) (by simp; rfl)

theorem tick : Statement .tick := by rw [Statement]; rfl

theorem rdp (id : Nat) : Statement (.rdp id) :=
  encode_and_mask (encode_eq_joinWord _) (mask_eq_joinWord _) (by simp; rfl)

theorem rdv (voice sel : Nat) : Statement (.rdv voice sel) :=
  encode_and_mask (encode_eq_joinWord _) (mask_eq_joinWord _) (by simp; rfl)

end Sys2Proof.Laws.EncodeFixed
end

