-- ==== Sys2Proof/Machine/Assembler.lean ====
section
/-! DEFINITION. The assembler syntax (30_encoding.md R91 to R93): mnemonics, symbolic ids, pseudo-instructions, and the
literals the assembler refuses. A line is a list of characters; `none` is a refusal. The machine does not use this file. -/

namespace Sys2Proof.Machine

/-- The value of a digit character, up to 15. -/
def digitValue (c : Char) : Option Nat :=
  if '0' ≤ c ∧ c ≤ '9' then some (c.toNat - '0'.toNat)
  else if 'a' ≤ c ∧ c ≤ 'f' then some (c.toNat - 'a'.toNat + 10)
  else if 'A' ≤ c ∧ c ≤ 'F' then some (c.toNat - 'A'.toNat + 10)
  else none

/-- The digits of a number after the part already read, `acc`. -/
def digitsFrom (base : Nat) : List Char → Nat → Option Nat
  | [], acc => some acc
  | c :: cs, acc =>
    match digitValue c with
    | none => none
    | some d => if d < base then digitsFrom base cs (acc * base + d) else none

/-- A number without sign: at least one digit. -/
def natLiteral (base : Nat) (cs : List Char) : Option Nat := if cs = [] then none else digitsFrom base cs 0

/-- The digits of a hexadecimal literal. They may carry `_` as a visual separator, as 00_scope.md R6 says of the spec's
hexadecimal literals and as rows N4 and S4 of 95_test_vectors.md write them. DEDUCED, because 30_encoding.md R91 says no
more than `0x...`; that a separator stands only after the first digit and before the last one, and that a decimal number
carries none, is a DESIGN CHOICE (notes/assumptions/16.md). -/
def hexLiteral (cs : List Char) : Option Nat :=
  if cs.head? = some '_' ∨ cs.getLast? = some '_' then none else natLiteral 16 (cs.filter fun c => decide (c ≠ '_'))

/-- "Numbers are decimal, with an optional leading `-`, or hexadecimal `0x...`" (30_encoding.md R91). -/
def numLiteral (cs : List Char) : Option Int :=
  match cs with
  | '-' :: ds => (natLiteral 10 ds).map fun n => -(n : Int)
  | '0' :: 'x' :: ds => (hexLiteral ds).map fun n => (n : Int)
  | ds => (natLiteral 10 ds).map fun n => (n : Int)

/-- An index inside a symbolic name, below a bound. DESIGN CHOICE: it is decimal (notes/assumptions/16.md). -/
def indexBelow (n : Nat) [NeZero n] (cs : List Char) : Option (Fin n) :=
  match natLiteral 10 cs with
  | some i => if i < n then some (Fin.ofNat n i) else none
  | none => none

/-- Blanks around an operand do not count. DESIGN CHOICE (notes/assumptions/16.md). -/
def trimBlanks (cs : List Char) : List Char :=
  ((cs.dropWhile (· = ' ')).reverse.dropWhile (· = ' ')).reverse

/-- What follows a prefix, when the text begins with it. -/
def afterPrefix : List Char → List Char → Option (List Char)
  | [], cs => some cs
  | p :: ps, c :: cs => if p = c then afterPrefix ps cs else none
  | _ :: _, [] => none

/-- The text before and after the first `sep`. -/
def cutAt (sep : Char) : List Char → Option (List Char × List Char)
  | [] => none
  | c :: cs => if c = sep then some ([], cs) else (cutAt sep cs).map fun r => (c :: r.1, r.2)

/-- The names of 10_state.md Table 10-1 (30_encoding.md R92). -/
def opFieldName : OpField → String
  | .ratioCoarse => "RATIO_COARSE"
  | .ratioFine => "RATIO_FINE"
  | .keytrack => "KEYTRACK"
  | .fixedInc => "FIXED_INC"
  | .octave => "OCTAVE"
  | .waveform => "WAVEFORM"
  | .startPhase => "START_PHASE"
  | .envDelay => "ENV_DELAY"
  | .envAttack => "ENV_ATTACK"
  | .envHold => "ENV_HOLD"
  | .envDecay => "ENV_DECAY"
  | .envSustain => "ENV_SUSTAIN"
  | .envRelease => "ENV_RELEASE"
  | .envAmp => "ENV_AMP"
  | .envRatioCoarse => "ENV_RATIO_COARSE"
  | .envRatioFine => "ENV_RATIO_FINE"
  | .lfoInc => "LFO_INC"
  | .lfoShape => "LFO_SHAPE"
  | .lfoRetrig => "LFO_RETRIG"
  | .lfoRatioCoarse => "LFO_RATIO_COARSE"
  | .lfoRatioFine => "LFO_RATIO_FINE"

/-- The names of 10_state.md Table 10-2 (30_encoding.md R92). -/
def edgeFieldName : EdgeField → String
  | .depth => "DEPTH"
  | .enable => "ENABLE"
  | .mode => "MODE"

/-- LEVEL and ENABLE of a mixer slot (30_encoding.md R92). -/
def mixFieldName : MixField → String
  | .level => "LEVEL"
  | .enable => "ENABLE"

/-- The row of Table 10-1 with a name. -/
def opFieldNamed (cs : List Char) : Option OpField :=
  ((List.range 21).filterMap opFieldOf).find? fun f => decide ((opFieldName f).toList = cs)

/-- The row of Table 10-2 with a name. -/
def edgeFieldNamed (cs : List Char) : Option EdgeField :=
  [EdgeField.depth, .enable, .mode].find? fun f => decide ((edgeFieldName f).toList = cs)

/-- The mixer parameter with a name. -/
def mixFieldNamed (cs : List Char) : Option MixField :=
  [MixField.level, .enable].find? fun f => decide ((mixFieldName f).toList = cs)

/-- `OPi.NAME`. -/
def opSymbol (cs : List Char) : Option Nat := do
  let (i, name) ← cutAt '.' (← afterPrefix "OP".toList cs)
  return paramId (.op (← indexBelow 6 i) (← opFieldNamed name))

/-- `FBi`. -/
def fbSymbol (cs : List Char) : Option Nat := do
  return paramId (.fb (← indexBelow 6 (← afterPrefix "FB".toList cs)))

/-- `EDGEk.X`. -/
def edgeSymbol (cs : List Char) : Option Nat := do
  let (k, name) ← cutAt '.' (← afterPrefix "EDGE".toList cs)
  return paramId (.edge (← indexBelow 15 k) (← edgeFieldNamed name))

/-- `EDGE(s,t).X` for `EDGEk.X`; "the assembler refuses s ≥ t" (30_encoding.md R92). -/
def edgePairSymbol (cs : List Char) : Option Nat := do
  let (s, more) ← cutAt ',' (← afterPrefix "EDGE(".toList cs)
  let (t, rest) ← cutAt ')' more
  let name ← afterPrefix ['.'] rest
  let si ← indexBelow 6 (trimBlanks s)
  let ti ← indexBelow 6 (trimBlanks t)
  if si < ti then return paramId (.edge (edgeIndex si ti) (← edgeFieldNamed name)) else none

/-- `MIXi.LEVEL` and `MIXi.ENABLE`. -/
def mixSymbol (cs : List Char) : Option Nat := do
  let (i, name) ← cutAt '.' (← afterPrefix "MIX".toList cs)
  return paramId (.mix (← indexBelow 6 i) (← mixFieldNamed name))

/-- `MASTER`, `STATUS`, `CONFIG`. -/
def singletonSymbol (cs : List Char) : Option Nat :=
  if cs = "MASTER".toList then some (paramId .master)
  else if cs = "STATUS".toList then some statusId
  else if cs = "CONFIG".toList then some configId
  else none

/-- A literal refused outside `lo .. hi` (30_encoding.md R91). -/
def literalIn (lo hi : Int) (cs : List Char) : Option Int :=
  match numLiteral cs with
  | some x => if lo ≤ x ∧ x ≤ hi then some x else none
  | none => none

/-- A literal index below a bound (the s, t and i of 30_encoding.md R93). -/
def indexOperand (n : Nat) [NeZero n] (cs : List Char) : Option (Fin n) :=
  (literalIn 0 (n - 1) cs).map fun x => Fin.ofNat n x.toNat

/-- The count of `TICKS n`, n ≥ 0 (30_encoding.md R93). -/
def countOperand (cs : List Char) : Option Nat :=
  match numLiteral cs with
  | some x => if 0 ≤ x then some x.toNat else none
  | none => none

/-- An ID operand: a symbolic name (R92) or a literal in [0, 65535] (R91). -/
def idOperand (cs : List Char) : Option Nat :=
  opSymbol cs <|> fbSymbol cs <|> edgeSymbol cs <|> edgePairSymbol cs <|> mixSymbol cs <|> singletonSymbol cs <|>
    (literalIn 0 65535 cs).map Int.toNat

/-- A VOICE, NOTE, VEL or SEL literal, in [0, 255] (R91). -/
def byteOperand (cs : List Char) : Option Nat := (literalIn 0 255 cs).map Int.toNat

/-- Whether an id is that of the MODE of an edge (10_state.md R27). -/
def isModeId (id : Nat) : Bool :=
  match lookupId id with
  | some (.param (.edge _ .mode)) => true
  | _ => false

/-- The VALUE written to an id: a literal in [−2^31, 2^32), encoded as `u32(literal)` (R91), or, "for MODE values", the
names PM = 0 and RM = 1 (R92). DESIGN CHOICE: those words are read as "for the MODE of an edge alone", by whichever
spelling of its id, and the names are refused as the value of any other id (notes/assumptions/16.md). -/
def valueOperand (id : Nat) (cs : List Char) : Option Word32 :=
  if isModeId id ∧ cs = "PM".toList then some 0#32
  else if isModeId id ∧ cs = "RM".toList then some 1#32
  else (literalIn (-(2 ^ 31)) (2 ^ 32 - 1) cs).map (BitVec.ofInt 32)

/-- The operands, separated by the commas outside parentheses. DESIGN CHOICE: a comma that no operand follows leaves an
empty operand, which every operand form refuses, so `NOFF 0,` is refused (notes/assumptions/16.md). -/
def splitOperands : List Char → Nat → List Char → List (List Char)
  | [], _, cur => [trimBlanks cur.reverse]
  | ',' :: cs, 0, cur => trimBlanks cur.reverse :: splitOperands cs 0 []
  | '(' :: cs, d, cur => splitOperands cs (d + 1) ('(' :: cur)
  | ')' :: cs, d, cur => splitOperands cs (d - 1) (')' :: cur)
  | c :: cs, d, cur => splitOperands cs d (c :: cur)

/-- `SETP` of a parameter by name (the expansions of 30_encoding.md R93). -/
def setParam (n : ParamName) (cs : List Char) : Option Instr := (valueOperand (paramId n) cs).map (.setp (paramId n))

/-- The mnemonics of 30_encoding.md Table 30-4. -/
def assembleCommand (m : List Char) (args : List (List Char)) : Option (List Instr) :=
  match args with
  | [] =>
    if m = "NOP".toList then some [.nop]
    else if m = "TICK".toList then some [.tick]
    else if m = "CLRSTATUS".toList then some [.setp statusId 0x7F#32]
    else none
  | [a] =>
    if m = "BEDIT".toList then (idOperand a).map fun id => [.bedit id]
    else if m = "EEDIT".toList then (idOperand a).map fun id => [.eedit id]
    else if m = "NOFF".toList then (byteOperand a).map fun v => [.noff v]
    else if m = "KILL".toList then (byteOperand a).map fun v => [.kill v]
    else if m = "RDP".toList then (idOperand a).map fun id => [.rdp id]
    else if m = "TICKS".toList then (countOperand a).map fun n => List.replicate n .tick
    else none
  | [a, b] =>
    if m = "SETP".toList then do
      let id ← idOperand a
      return [.setp id (← valueOperand id b)]
    else if m = "RDV".toList then do return [.rdv (← byteOperand a) (← byteOperand b)]
    else if m = "GESTURE".toList then do
      let id ← idOperand a
      return [.bedit id, .setp id (← valueOperand id b), .eedit id]
    else none
  | [a, b, c] =>
    if m = "NON".toList then do return [.non (← byteOperand a) (← byteOperand b) (← byteOperand c)]
    else if m = "SETMIX".toList then do
      let i ← indexOperand 6 a
      return [← setParam (.mix i .level) b, ← setParam (.mix i .enable) c]
    else none
  | [a, b, c, d, e] =>
    if m = "SETEDGE".toList then do
      let s ← indexOperand 6 a
      let t ← indexOperand 6 b
      let k := edgeIndex s t
      if s < t then
        return [← setParam (.edge k .depth) c, ← setParam (.edge k .enable) d, ← setParam (.edge k .mode) e]
      else none
    else none
  | _ => none

/-- One line: a mnemonic, then its operands (30_encoding.md Table 30-4; pseudo-instructions, R93). -/
def assembleLine (line : List Char) : Option (List Instr) :=
  let text := trimBlanks line
  match cutAt ' ' text with
  | none => assembleCommand text []
  | some (m, rest) => assembleCommand m (splitOperands rest 0 [])

/-- The command words of a line. -/
def assemble (line : String) : Option (List Word64) := (assembleLine line.toList).map fun is => is.map encode

end Sys2Proof.Machine
end

