-- ==== Sys2Proof/Tests/Slice0.lean ====
section
/-! SUPPORT. Small tests, each expected result taken from the spec (the row of 95_test_vectors.md, or the table, that the
test names), and a witness for every statement that has hypotheses. -/

namespace Sys2Proof.Tests

open Sys2Proof Sys2Proof.Machine

set_option Elab.async false

/-! ### Well-formedness: one ill-formed term for each check -/

theorem test_wf_id_too_wide : (Instr.setp 65536 0#32).wf = false ∧ (Instr.bedit 65536).wf = false ∧
    (Instr.eedit 65536).wf = false ∧ (Instr.rdp 65536).wf = false := by decide

theorem test_wf_voice_too_wide : (Instr.non 256 0 0).wf = false ∧ (Instr.noff 256).wf = false ∧
    (Instr.kill 256).wf = false ∧ (Instr.rdv 256 0).wf = false := by decide

theorem test_wf_note_vel_sel_too_wide : (Instr.non 0 256 0).wf = false ∧ (Instr.non 0 0 256).wf = false ∧
    (Instr.rdv 0 256).wf = false := by decide

/-- Encodable but illegal operands are well-formed: the block reports them (30_encoding.md R91). -/
theorem test_wf_illegal_but_encodable : (Instr.non 255 255 255).wf = true ∧ (Instr.rdp 65535).wf = true := by decide

/-! ### The configuration check (70_reset_and_hazards.md R253, I19) -/

/-- A configuration that breaks the check is refused. -/
theorem make?_of_not_ok {nv nw : Nat} {wave : List (List Sample)} {noteInc exp2 : List Word32}
    (h : configOk nv nw wave noteInc exp2 = false) : Config.make? nv nw wave noteInc exp2 = none := by
  simp [Config.make?, h]

/-- The test tables are accepted with the most voice contexts. -/
theorem test_config_accepted : configOk 256 1 [refSine] testNoteInc refExp2 = true := by
  have h := testConfig_ok
  simp only [configOk, Bool.and_eq_true] at h ⊢
  simp only [h, and_true]
  decide

theorem test_config_refuses_counts :
    configOk 0 1 [refSine] testNoteInc refExp2 = false ∧ configOk 257 1 [refSine] testNoteInc refExp2 = false ∧
    configOk 1 0 [] testNoteInc refExp2 = false ∧
    configOk 1 17 (List.replicate 17 refSine) testNoteInc refExp2 = false := by decide +kernel

theorem test_config_refuses_tables :
    configOk 1 2 [refSine] testNoteInc refExp2 = false ∧
    configOk 1 1 [refSine.drop 1] testNoteInc refExp2 = false ∧
    configOk 1 1 [refSine] (testNoteInc.drop 1) refExp2 = false ∧
    configOk 1 1 [refSine] testNoteInc (refExp2.drop 1) = false ∧
    configOk 1 1 [refSine] testNoteInc (65537#32 :: refExp2.drop 1) = false ∧
    configOk 1 1 [refSine] testNoteInc (65536#32 :: 131072#32 :: refExp2.drop 2) = false ∧
    configOk 1 1 [refSine] testNoteInc (65536#32 :: 65535#32 :: refExp2.drop 2) = false := by decide +kernel

/-! ### The reference tables -/

/-- 44_lut_mixer.md Table 44-1. -/
theorem test_sine_table :
    [0, 1, 2, 85, 128, 171, 255, 256, 257, 384, 511, 512, 513, 640, 768, 896, 1023].map
      (fun j => (refSine.getD j 0#16).toInt) =
    [0, 201, 402, 16325, 23170, 28411, 32766, 32767, 32766, 23170, 201, 0, -201, -23170, -32767, -23170, -201] := by
  decide +kernel

/-- `E = floor(65536 · 2^(f/4096) + 1/2)` said with integers: (2E − 1)^4096 ≤ 2^(17·4096 + f) < (2E + 1)^4096
(40_operator.md R103). -/
def roundsExp2 (f E : Nat) : Bool :=
  decide ((2 * E - 1) ^ 4096 ≤ 2 ^ (17 * 4096 + f)) && decide (2 ^ (17 * 4096 + f) < (2 * E + 1) ^ 4096)

/-- Every entry of the reference EXP2_FRAC. -/
theorem test_exp2_table :
    ((List.range 4096).zip refExp2Nat).all (fun x => roundsExp2 x.1 x.2) = true := by decide +kernel

/-! ### Decoding: words written from 30_encoding.md Table 30-4, and the D rows of 95_test_vectors.md -/

theorem test_decode_nop : decode 0x0000_0000_0000_0000#64 = .command .nop := by decide
/-- P15: OP1.OCTAVE, −5. -/
theorem test_decode_setp : decode 0x1000_0124_FFFF_FFFB#64 = .command (.setp 0x0124 (BitVec.ofInt 32 (-5))) := by decide
/-- B1. -/
theorem test_decode_bedit : decode 0x2000_0103_0000_0000#64 = .command (.bedit 0x0103) := by decide
/-- D13. -/
theorem test_decode_eedit : decode 0x3000_0F02_0000_0000#64 = .command (.eedit 0x0F02) := by decide
/-- L3-6, step 7: voice 1, note 32, vel 20. -/
theorem test_decode_non : decode 0x4001_2014_0000_0000#64 = .command (.non 1 32 20) := by decide
/-- F6. -/
theorem test_decode_noff : decode 0x5002_0000_0000_0000#64 = .command (.noff 2) := by decide
/-- D15. -/
theorem test_decode_kill : decode 0x6002_0000_0000_0000#64 = .command (.kill 2) := by decide
theorem test_decode_tick : decode 0x7000_0000_0000_0000#64 = .command .tick := by decide
/-- P14's read. -/
theorem test_decode_rdp : decode 0x8000_01B4_0000_0000#64 = .command (.rdp 0x01B4) := by decide
/-- D10: READ_VOICE 7, 40. -/
theorem test_decode_rdv : decode 0x9007_2800_0000_0000#64 = .command (.rdv 7 40) := by decide

/-- D2, D3, D6, D7, D8, D11, D12, D14, and bits 40 and 0 of END_EDIT and VOICE_KILL. -/
theorem test_decode_reserved :
    decode 0x0000_0000_0000_0001#64 = .reserved .nop ∧ decode 0x1080_0700_0000_2000#64 = .reserved .setParam ∧
    decode 0x8001_0700_0000_0000#64 = .reserved .readParam ∧ decode 0x9000_0000_0000_0001#64 = .reserved .readVoice ∧
    decode 0x4105_8000_0000_0000#64 = .reserved .noteOn ∧ decode 0x7000_0000_0000_0001#64 = .reserved .tick ∧
    decode 0x2000_0103_0000_0001#64 = .reserved .beginEdit ∧ decode 0x5000_0100_0000_0000#64 = .reserved .noteOff ∧
    decode 0x3000_0F02_0000_0001#64 = .reserved .endEdit ∧ decode 0x6000_0100_0000_0000#64 = .reserved .voiceKill := by
  decide

/-- D4, D5. -/
theorem test_decode_illegal :
    decode 0xF000_0000_0000_0000#64 = .illegal ∧ decode 0xA123_4567_89AB_CDEF#64 = .illegal := by decide

/-- The bytes of D5's word, bits [7:0] first (20_memory.md R62), and its decoding from them. -/
theorem test_wire_bytes :
    wireBytes 0xA123_4567_89AB_CDEF#64 = [0xEF#8, 0xCD#8, 0xAB#8, 0x89#8, 0x67#8, 0x45#8, 0x23#8, 0xA1#8] ∧
    decodeBytes [0#8, 0#8, 0#8, 0#8, 0#8, 0#8, 0#8, 0x70#8, 0xFF#8] = some (.command .tick, [0xFF#8]) ∧
    decodeBytes [0#8, 0#8, 0#8, 0#8, 0#8, 0#8, 0x70#8] = none := by decide

/-- Two samples, 0x8001 and 0x7FFE: bits [7:0] first (20_memory.md R62). -/
theorem test_wire_samples :
    Event.wireBytes (.samples [0x8001#16, 0x7FFE#16]) = [0x01#8, 0x80#8, 0xFE#8, 0x7F#8] ∧
    ofWireVector 2 [0x01#8, 0x80#8, 0xFE#8, 0x7F#8, 0x55#8] = some ([0x8001#16, 0x7FFE#16], [0x55#8]) ∧
    ofWireVector 2 [0x01#8, 0x80#8, 0xFE#8] = none := by decide

theorem test_decodeTableWord :
    decodeTableWord 64 0x4001_2014_0000_0000 = some (.non 1 32 20) ∧ decodeTableWord 64 0xF000_0000_0000_0000 = none := by
  decide

/-- `State.withFetchWord` puts the word where the next step takes it. -/
theorem test_withFetchWord :
    ((State.reset.withFetchWord 64 0x2000_0F02_0000_0000).fetch?.map fun r => decode r.1) =
      some (.command (.bedit 0x0F02)) := by decide +kernel

/-! ### One step on a small state -/

/-- The reset state with one word in the stream. -/
def withWord (s : State) (w : Word64) : State := { s with input := [w] }

/-- A voice context whose six operators hold the same envelope. -/
def voiceWith (life : Life) (E : Env) : Voice :=
  { life := life, note := 64#7, vel := 100#7, age := 4#32,
    ops := Vector.ofFn fun _ => { phase := 0x4000_0000#32, prev := 0#16, lfo := 0#32, env := E } }

/-- An envelope in Sustain at full level. -/
def sustained : Env := { stage := .sustain, k := 0#24, level := 32768#16, l0 := 0#16 }

/-- The reset state with voice context 0 as given. -/
def withVoice (v : Voice) : State := { State.reset with voices := [v, Voice.reset] }

/-- The reset state with one parameter changed. -/
def withParam (n : ParamName) (x : Int) (s : State) : State := { s with params := s.params.set n x }

/-- STATUS, and what went out, after one step. -/
def observe (s : State) : Option (Word32 × List Event) := (nextState? (step s)).map fun t => (t.status, t.out)

/-- A field of voice context `v` after one step. -/
def voiceAfter {α : Type} (s : State) (v : Nat) (f : Voice → α) : Option α :=
  (nextState? (step s)).bind fun t => t.voices[v]?.map f

/-- D1. -/
theorem test_nop :
    (nextState? (step (withWord State.reset 0#64))).map (fun t => (t.params, t.status, t.voices, t.out)) =
      some (State.reset.params, 0#32, State.reset.voices, []) := by decide +kernel
/-- 2.2: 0x0FFF_FFFF_FFFF_FFFF. -/
theorem test_nop_reserved :
    (nextState? (step (withWord State.reset 0x0FFF_FFFF_FFFF_FFFF#64))).map
      (fun t => (t.params, t.status, t.voices, t.out)) =
      some (State.reset.params, 0x02#32, State.reset.voices, []) := by decide +kernel

/-- P2: a negative value, clamped. -/
theorem test_setp_clamps :
    (nextState? (step (withWord State.reset 0x1000_0400_FFFF_B1E0#64))).map
      (fun t => (t.params.get (.fb 0), t.status)) = some (-16384, 0x40#32) := by decide +kernel
/-- S2: write one to clear. -/
theorem test_setp_status :
    observe (withWord { State.reset with status := 0x49#32 } 0x1000_0F00_0000_0040#64) = some (0x09#32, []) := by
  decide +kernel

/-- B3: a read-only id is no error here. -/
theorem test_bedit : observe (withWord State.reset 0x2000_0F01_0000_0000#64) = some (0#32, []) := by decide +kernel
/-- B4. -/
theorem test_eedit : observe (withWord State.reset 0x3000_0F02_0000_0000#64) = some (0x04#32, []) := by decide +kernel

/-- N10: zero-duration Delay and Attack are skipped, and the note starts in Hold. -/
theorem test_non :
    voiceAfter (withWord (withParam (.op 0 .envHold) 5 State.reset) 0x4000_3C01_0000_0000#64) 0
      (fun v => (v.life, v.note, v.ops[0].env.stage, v.ops[1].env.stage)) =
      some (.active, 60#7, .hold, .sustain) := by decide +kernel
/-- D9: a bad voice outranks a bad operand. -/
theorem test_non_bad_voice : observe (withWord State.reset 0x4005_8000_0000_0000#64) = some (0x10#32, []) := by
  decide +kernel

/-- F3: operator 0 alone has a Release to run. -/
theorem test_noff :
    voiceAfter (withWord (withParam (.op 0 .envRelease) 2 (withVoice (voiceWith .active sustained)))
        0x5000_0000_0000_0000#64) 0
      (fun v => (v.life, v.ops[0].env.stage, v.ops[0].env.l0, v.ops[1].env.stage)) =
      some (.releasing, .release, 32768#16, .idle) := by decide +kernel
/-- F1: no envelope has a Release to run. -/
theorem test_noff_frees :
    voiceAfter (withWord (withVoice (voiceWith .active sustained)) 0x5000_0000_0000_0000#64) 0
      (fun v => (v.life, v.ops[0].env.stage, v.ops[0].env.level)) = some (.free, .idle, 32768#16) := by decide +kernel

/-- K1: the envelope is zeroed; phase and age are kept. -/
theorem test_kill :
    voiceAfter (withWord (withVoice (voiceWith .active sustained)) 0x6000_0000_0000_0000#64) 0
      (fun v => (v.life, v.age, v.ops[0].phase, v.ops[0].env)) =
      some (.free, 4#32, 0x4000_0000#32, Env.reset) := by decide +kernel
/-- D15. -/
theorem test_kill_bad_voice : observe (withWord State.reset 0x6002_0000_0000_0000#64) = some (0x10#32, []) := by
  decide +kernel

/-- L3-1, the second tick: a quarter cycle of the sine. -/
theorem test_tick :
    observe (withWord (withVoice (voiceWith .active sustained)) 0x7000_0000_0000_0000#64) =
      some (0#32, [.samples [32767#16, 0#16]]) := by decide +kernel
/-- L1: the LFO of a Free voice context runs, its phase does not. -/
theorem test_tick_free :
    voiceAfter (withWord (withParam (.op 0 .lfoInc) 0x4000_0000 (withVoice (voiceWith .free Env.reset)))
        0x7000_0000_0000_0000#64) 0
      (fun v => (v.age, v.ops[0].lfo, v.ops[0].phase)) = some (4#32, 0x4000_0000#32, 0x4000_0000#32) := by
  decide +kernel

/-- Q11: CONFIG. -/
theorem test_rdp :
    observe (withWord State.reset 0x8000_0F01_0000_0000#64) =
      some (0#32, [.response 0x8000_0F01_0100_0106#64]) := by decide +kernel
/-- D6: a reserved READ_PARAM still responds. -/
theorem test_rdp_reserved :
    observe (withWord State.reset 0x8001_0700_0000_0000#64) =
      some (0x02#32, [.response 0x8100_0700_0000_0000#64]) := by decide +kernel

/-- V1. -/
theorem test_rdv :
    observe (withWord (withVoice (voiceWith .active sustained)) 0x9000_0000_0000_0000#64) =
      some (0#32, [.response 0x9000_0000_0001_4064#64]) := by decide +kernel
/-- D10: a bad voice outranks a bad selector, and the fields come back as given. -/
theorem test_rdv_bad_voice :
    observe (withWord State.reset 0x9007_2800_0000_0000#64) =
      some (0x10#32, [.response 0x9107_2800_0000_0000#64]) := by decide +kernel

/-- D5. -/
theorem test_illegal : observe (withWord State.reset 0xA123_4567_89AB_CDEF#64) = some (0x01#32, []) := by
  decide +kernel

/-! ### Operations -/

/-- E12, ticks 2 and 3: Hold ends, Decay begins. -/
theorem test_envelope_hold_decay :
    let p := { State.reset.params.ops[(0 : OpIx)] with envHold := 2, envDecay := 2, envSustain := 10000, envRelease := 3 }
    let E := envStep p { stage := .hold, k := 1#24, level := 32768#16, l0 := 0#16 }
    E = { stage := .decay, k := 0#24, level := 32768#16, l0 := 0#16 } ∧
    envStep p E = { stage := .decay, k := 1#24, level := 21384#16, l0 := 0#16 } := by decide +kernel

/-- E9, tick 2: a raised duration holds the level. -/
theorem test_envelope_raised_duration :
    envStep { State.reset.params.ops[(0 : OpIx)] with envAttack := 6 }
      { stage := .attack, k := 1#24, level := 10922#16, l0 := 0#16 } =
    { stage := .attack, k := 2#24, level := 10922#16, l0 := 0#16 } := by decide +kernel

/-- O5, O10, O11 and O16: the phase increment. -/
theorem test_phase_increment :
    let p := State.reset.params.ops[(0 : OpIx)]
    phaseInc testConfig { p with envRatioCoarse := 1 } 64#7 16384 0 = 0x5A82_8000#32 ∧
    phaseInc testConfig { p with ratioCoarse := 255, ratioFine := 65535 } 127#7 0 0 = 0xFFFF_8100#32 ∧
    phaseInc testConfig { p with envRatioCoarse := -8, envRatioFine := -4095 } 1#7 32768 0 = 0x0000_8005#32 ∧
    phaseInc testConfig { p with keytrack := 0, fixedInc := 2 ^ 20, envRatioFine := 2048 } 0#7 32768 0 = 0x0016_A0A0#32 := by
  decide +kernel

/-- The edge indices of 2.14, and M11 to M15 of the ring modulation. -/
theorem test_matrix :
    [edgeIndex 0 1, edgeIndex 0 2, edgeIndex 1 2, edgeIndex 0 3, edgeIndex 2 3, edgeIndex 0 5, edgeIndex 4 5] =
      [0, 1, 2, 3, 5, 10, 14] ∧
    rmStep ⟨16384, 1, 1⟩ (-32768) (-32768) = 32767 ∧ rmStep ⟨-16384, 1, 1⟩ (-32768) (-32768) = -32768 ∧
    rmStep ⟨-16384, 1, 1⟩ (-32768) 32767 = 32767 ∧ rmStep ⟨16384, 1, 1⟩ 32767 (-32768) = -32767 ∧
    rmStep ⟨16384, 1, 1⟩ 16384 32767 = 16383 ∧ rmStep ⟨16384, 0, 1⟩ 16384 32767 = 32767 := by decide +kernel

/-- R92 and R93: `EDGE(s,t)` is edge t(t − 1)/2 + s, s ≥ t is refused, and a gesture is three commands. -/
theorem test_assembler :
    assemble "SETP EDGE(0,1).MODE, RM" = some [0x1000_0502_0000_0001#64] ∧
    assemble "SETP EDGE14.DEPTH, -16384" = some [0x1000_0538_FFFF_C000#64] ∧
    assemble "SETP EDGE(1,1).MODE, RM" = none ∧
    assemble "SETP MASTER, 4294967296" = none ∧
    assemble "NON 0, 256, 0" = none ∧
    assemble "GESTURE MASTER, 100" =
      some [0x2000_0700_0000_0000#64, 0x1000_0700_0000_0064#64, 0x3000_0700_0000_0000#64] := by decide +kernel

/-- Rows S4 and N4 of 95_test_vectors.md, whose literals carry `_`, and R92's value names for MODE values. -/
theorem test_assembler_separators_and_names :
    assemble "SETP STATUS, 0xFFFF_FFFF" = some [0x1000_0F00_FFFF_FFFF#64] ∧
    assemble "SETP OP0.START_PHASE, 0x4000_0000" = some [0x1000_0106_4000_0000#64] ∧
    assemble "SETP MASTER, 0x_1" = none ∧
    assemble "SETEDGE 0, 1, 16384, 1, PM" =
      some [0x1000_0500_0000_4000#64, 0x1000_0501_0000_0001#64, 0x1000_0502_0000_0000#64] ∧
    assemble "SETP MASTER, RM" = none ∧
    assemble "NOFF 0," = none := by decide +kernel

/-! ### Witnesses: a concrete state and operands that meet the hypotheses of each statement that has some -/

/-- The reset state with voice context 0 sounding. -/
def active : State := withVoice (voiceWith .active sustained)

theorem witness_DecodeOfEncode :
    (Instr.setp 65535 0xFFFF_FFFF#32).wf = true ∧ (Instr.non 255 255 255).wf = true ∧ (Instr.rdv 255 255).wf = true := by
  decide

theorem witness_EncodeOfDecode : decode 0x9007_2800_0000_0000#64 = .command (.rdv 7 40) := by decide

/-- Each clause of DecodeByFields, on the command and on the reserved side, and its last clause at both ends. -/
theorem witness_DecodeByFields :
    [0x0000_0000_0000_0000#64, 0x1000_FFFF_FFFF_FFFF#64, 0x2000_FFFF_0000_0000#64, 0x3000_FFFF_0000_0000#64,
     0x40FF_FFFF_0000_0000#64, 0x50FF_0000_0000_0000#64, 0x60FF_0000_0000_0000#64, 0x7000_0000_0000_0000#64,
     0x8000_FFFF_0000_0000#64, 0x90FF_FF00_0000_0000#64, 0xA000_0000_0000_0000#64, 0xFFFF_FFFF_FFFF_FFFF#64].map
      (fun w => bits w 63 60) = [0, 1, 2, 3, 4, 5, 6, 7, 8, 9, 10, 15] ∧
    [0x0800_0000_0000_0000#64, 0x1001_0000_0000_0000#64, 0x2000_0000_0000_0001#64, 0x3000_0000_8000_0000#64,
     0x4100_0000_0000_0000#64, 0x5000_8000_0000_0000#64, 0x6000_0000_0000_0001#64, 0x7800_0000_0000_0000#64,
     0x8000_0000_0000_0001#64, 0x9000_0080_0000_0000#64].map decode =
      [.reserved .nop, .reserved .setParam, .reserved .beginEdit, .reserved .endEdit, .reserved .noteOn,
       .reserved .noteOff, .reserved .voiceKill, .reserved .tick, .reserved .readParam, .reserved .readVoice] := by
  decide

/-- The first and the last byte of a word, and of a sample vector, and a byte past its end. -/
theorem witness_WireBytesRoundTrip :
    0 < 8 ∧ 7 < 8 ∧ (wireBytes 0xA123_4567_89AB_CDEF#64)[0]? = some 0xEF#8 ∧
    (wireBytes 0xA123_4567_89AB_CDEF#64)[7]? = some 0xA1#8 := by decide

theorem witness_SampleBytesRoundTrip :
    0 < 2 ∧ 1 < 2 ∧ (wireVector [0x8001#16, 0x7FFE#16])[2 * 0 + 0]? = some 0x01#8 ∧
    (wireVector [0x8001#16, 0x7FFE#16])[2 * 1 + 1]? = some 0x7F#8 ∧
    (wireVector [0x8001#16, 0x7FFE#16])[2 * 2 + 0]? = none := by decide

/-- The last id of each range, and the ids just outside. -/
theorem witness_IdMapExact :
    lookupId 0x01B4 = some (.param (.op 5 .lfoRatioFine)) ∧ lookupId 0x0405 = some (.param (.fb 5)) ∧
    lookupId 0x053A = some (.param (.edge 14 .mode)) ∧ lookupId 0x060B = some (.param (.mix 5 .enable)) ∧
    lookupId 0x0700 = some (.param .master) ∧ lookupId 0x0F00 = some .status ∧ lookupId 0x0F01 = some .config ∧
    [0x00FF, 0x0115, 0x01B5, 0x0406, 0x0503, 0x053B, 0x053C, 0x060C, 0x0701, 0x0F02].map lookupId =
      List.replicate 10 none := by decide

theorem witness_ResponseWordFields : 65535 < 65536 ∧ 255 < 256 := by decide

theorem witness_StepRunsDecodedCommand :
    (withWord State.reset 0x7000_0000_0000_0000#64).input = [0x7000_0000_0000_0000#64] ∧
    decode 0x7000_0000_0000_0000#64 = .command .tick := by decide

theorem witness_IllegalWordSetsOneBit :
    (withWord State.reset 0xA000_0000_0000_0000#64).input = [0xA000_0000_0000_0000#64] ∧
    0xA ≤ bits 0xA000_0000_0000_0000#64 63 60 ∧ 0xA ≤ bits 0xFFFF_FFFF_FFFF_FFFF#64 63 60 := by decide

theorem witness_ReservedWordSetsOneBit :
    (withWord State.reset 0x9000_0000_0000_0001#64).input = [0x9000_0000_0000_0001#64] ∧
    bits 0x9000_0000_0000_0001#64 63 60 = Opcode.code .readVoice ∧
    0x9000_0000_0000_0001#64 &&& Opcode.mask .readVoice ≠ Opcode.matchWord .readVoice ∧
    bits 0x8001_0700_0000_0000#64 63 60 = Opcode.code .readParam ∧
    0x8001_0700_0000_0000#64 &&& Opcode.mask .readParam ≠ Opcode.matchWord .readParam ∧
    bits 0x7000_0000_0000_0001#64 63 60 = Opcode.code .tick ∧
    0x7000_0000_0000_0001#64 &&& Opcode.mask .tick ≠ Opcode.matchWord .tick := by decide

theorem witness_StepWaitsForInput : State.reset.input = [] := rfl

theorem witness_EveryWordCompletes :
    (withWord State.reset 0xF000_0000_0000_0000#64).input = 0xF000_0000_0000_0000#64 :: [] := rfl

theorem witness_NopWord :
    (withWord State.reset 0x0FFF_FFFF_FFFF_FFFF#64).input = [0x0FFF_FFFF_FFFF_FFFF#64] ∧
    bits 0x0FFF_FFFF_FFFF_FFFF#64 63 60 = 0 ∧ bits 0x0FFF_FFFF_FFFF_FFFF#64 59 0 ≠ 0 ∧
    bits 0x0000_0000_0000_0001#64 59 0 ≠ 0 ∧ bits 0x0000_0000_0000_0000#64 59 0 = 0 := by decide

theorem witness_SetParamStoresClamped :
    lookupId 0x0700 = some (.param .master) ∧ lookupId 0x0101 = some (.param (.op 0 .ratioFine)) := by decide

theorem witness_SetParamErrors : lookupId 0x0115 = none ∧ lookupId 0x0F02 = none := by decide

theorem witness_EditMarkersHaveNoEffect : known 0x0F01 = true ∧ known 0x0F02 = false := by decide

theorem witness_ReadParamResponds : lookupId 0x053F = none ∧ lookupId 0xFFFF = none := by decide

theorem witness_SetParamsCommute : ParamName.master ≠ .fb 0 := by decide

theorem witness_NoteOnStartsVoice :
    1 < State.reset.cfg.numVoices ∧ State.reset.voices[1]? = some Voice.reset ∧ 127 ≤ 127 := by decide +kernel

/-- A busy voice context, which NOTE_ON steals, NOTE_OFF releases and VOICE_KILL frees; and a Free one. -/
theorem witness_NoteOffReleasesVoice :
    0 < active.cfg.numVoices ∧ active.voices[0]? = some (voiceWith .active sustained) ∧
    (voiceWith .active sustained).life = .active ∧ 1 < active.cfg.numVoices ∧
    active.voices[1]? = some Voice.reset ∧ Voice.reset.life ≠ .active := by decide +kernel

theorem witness_VoiceKillFreesVoice :
    0 < active.cfg.numVoices ∧ active.voices[0]? = some (voiceWith .active sustained) := by decide +kernel

/-- The first and last selector of each clause of ReadVoiceResponds. -/
theorem witness_ReadVoiceResponds :
    0 < active.cfg.numVoices ∧ active.voices[0]? = some (voiceWith .active sustained) ∧
    [2 + (0 : OpIx).val, 2 + (5 : OpIx).val, 8 + (0 : OpIx).val, 8 + (5 : OpIx).val, 14 + (0 : OpIx).val,
     14 + (5 : OpIx).val, 20 + (0 : OpIx).val, 20 + (5 : OpIx).val, 26 + (0 : OpIx).val, 26 + (5 : OpIx).val,
     32 + (0 : OpIx).val, 32 + (5 : OpIx).val] = [2, 7, 8, 13, 14, 19, 20, 25, 26, 31, 32, 37] ∧
    (0 : Nat) ≤ 37 ∧ 1 ≤ 37 ∧ 37 ≤ 37 := by decide +kernel

theorem witness_VoiceCommandErrors :
    State.reset.cfg.numVoices ≤ 2 ∧ 1 < State.reset.cfg.numVoices ∧ State.reset.voices[1]? = some Voice.reset ∧
    127 < 128 ∧ 37 < 38 := by decide +kernel

/-- The reset parameters of an operator with every envelope stage in use, Decay at its longest. -/
def timed : OpParams :=
  { State.reset.params.ops[(0 : OpIx)] with
    envDelay := 1, envAttack := 2, envHold := 1, envDecay := 2 ^ 24 - 1, envSustain := 100, envRelease := 3 }

theorem witness_StageEntrySkipsZeroDurations :
    duration timed .delay ≠ some 0 ∧ duration timed .sustain ≠ some 0 ∧
    duration State.reset.params.ops[(0 : OpIx)] .release = some 0 := by decide +kernel

/-- Each stage, a stage on its last tick, and a stage before it. -/
theorem witness_EnvelopeStepByStage :
    duration timed Env.reset.stage = none ∧ duration timed sustained.stage = none ∧
    duration timed .delay = some 1 ∧ (1 : Int) ≤ (0 : Nat) + 1 ∧
    duration timed .attack = some 2 ∧ ((0 : Nat) : Int) + 1 < 2 ∧
    duration timed .hold = some 1 ∧ duration timed .decay = some (2 ^ 24 - 1) ∧ duration timed .release = some 3 := by
  decide +kernel

/-- The longest Decay, one tick before its end. -/
def lateDecay : Env := { stage := .decay, k := BitVec.ofNat 24 (2 ^ 24 - 2), level := 32768#16, l0 := 32768#16 }

theorem witness_EnvelopeLevelInRange : timed.envInRange ∧ lateDecay.ok ∧ sustained.ok := by
  unfold OpParams.envInRange Env.ok
  decide +kernel

/-- The stages a note passes through, each clause of EnvelopeMonotone met, and an interrupted stage. -/
theorem witness_EnvelopeMonotone :
    timed.envInRange ∧ (envAfter timed 0 (envStart timed Env.reset)).stage = .delay ∧
    (envAfter timed 1 (envStart timed Env.reset)).stage = .attack ∧
    (envAfter timed 3 (envStart timed Env.reset)).stage = .hold ∧
    (envAfter timed 4 (envStart timed Env.reset)).stage = .decay ∧
    Env.reset.stage = .idle ∧ (envRelease timed sustained).stage = .release ∧ sustained.stage ≠ .release ∧ max 1 timed.envRelease ≤ ((2 : Nat) : Int) + 1 := by
  unfold OpParams.envInRange
  decide +kernel

theorem inRange_reset : State.reset.params.inRange State.reset.cfg.numWaves := by
  intro n
  have h := paramRow_reset_mem (numWaves_pos State.reset.cfg) n
  rw [← Params.get_ofNames (fun m => (paramRow State.reset.cfg.numWaves m).reset) n] at h
  exact h

theorem witness_PitchExponentBounds :
    State.reset.params.inRange State.reset.cfg.numWaves ∧ (0 : Int) ≤ 32768 ∧ (-32768 : Int) ≤ 32767 :=
  ⟨inRange_reset, by decide, by decide⟩

theorem witness_EdgeEnumeration : (0 : OpIx) < 1 ∧ (4 : OpIx) < 5 := by decide

/-- A disabled edge whose source differs and every other output agrees. -/
theorem witness_DisabledEdgeHasNoInfluence :
    (4 : OpIx) < 5 ∧ State.reset.params.edges[edgeIndex 4 5].enable = 0 ∧
    ∀ r : OpIx, r ≠ 4 → outAt [1, 2, 3, 4, 5] r = outAt [1, 2, 3, 4, -32768] r := by decide +kernel

theorem witness_ModulationBounds :
    State.reset.params.inRange State.reset.cfg.numWaves ∧
    (∀ s : OpIx, -32768 ≤ outAt [-32768, 32767, 0, -32768, 32767] s ∧
      outAt [-32768, 32767, 0, -32768, 32767] s ≤ 32767) ∧
    ((-16384 : Int) ≤ -16384 ∧ (-16384 : Int) ≤ 16384 ∧ (-32768 : Int) ≤ -32768 ∧ (-32768 : Int) ≤ 32767) ∧
    ((-32768 : Int) ≤ -32768 ∧ (-32768 : Int) ≤ 32767 ∧ rmFactor 16384 (-32768) = -32768 ∧
      rmFactor (-16384) (-32768) = 32768) :=
  ⟨inRange_reset, by decide, by decide, by decide⟩

/-- The bounds' extreme outputs, and a disabled slot whose LEVEL and operator's output differ. -/
theorem witness_MixerBounds :
    State.reset.params.inRange State.reset.cfg.numWaves ∧
    (∀ s : OpIx, -32768 ≤ outAt [-32768, -32768, -32768, -32768, -32768, -32768] s ∧
      outAt [-32768, -32768, -32768, -32768, -32768, -32768] s ≤ 32767) ∧
    State.reset.params.master = (State.reset.params.set (.mix 1 .level) 9).master ∧
    (∀ s : OpIx, State.reset.params.mix[s].enable = (State.reset.params.set (.mix 1 .level) 9).mix[s].enable) ∧
    (∀ s : OpIx, State.reset.params.mix[s].enable = 1 →
      State.reset.params.mix[s].level = (State.reset.params.set (.mix 1 .level) 9).mix[s].level ∧
      outAt [7, 1] s = outAt [7, 2] s) :=
  ⟨inRange_reset, by decide, by decide +kernel, by decide +kernel, by decide +kernel⟩

/-- The reset operator (KEYTRACK = 1), X = 0; and an operator that is not keytracked, one octave down. -/
theorem witness_PhaseIncrementValue :
    (let p := State.reset.params.ops[(0 : OpIx)]
     (0 : Int) = 0 * (p.envRatioCoarse * 4096 + p.envRatioFine) / 32768 +
       0 * (p.lfoRatioCoarse * 4096 + p.lfoRatioFine) / 32768 + (if p.keytrack = 1 then 0 else p.octave * 4096)) ∧
    (let p := { State.reset.params.ops[(0 : OpIx)] with keytrack := 0, octave := -1 }
     (-4096 : Int) = 0 * (p.envRatioCoarse * 4096 + p.envRatioFine) / 32768 +
       0 * (p.lfoRatioCoarse * 4096 + p.lfoRatioFine) / 32768 + (if p.keytrack = 1 then 0 else p.octave * 4096)) ∧
    (-1 : Int) = -4096 / 4096 ∧ (65536 : Int) = (testConfig.exp2Frac.getD ((-4096 : Int) - 4096 * -1).toNat 0#32).toNat := by
  decide +kernel

/-- R108's example: eff = 0x4000_0000 reads index 256 of the sine, 32767. -/
theorem witness_OperatorOutputValue :
    0x4000_0000#32 = BitVec.ofInt 32 (((voiceWith .active sustained).ops[(0 : OpIx)].phase.toNat : Int) +
      (voiceWith .active sustained).ops[(0 : OpIx)].prev.toInt * State.reset.params.fb[(0 : OpIx)] * 8 +
        pmSum State.reset.params 0 []) ∧
    (32767 : Int) = ((testConfig.wave.getD State.reset.params.ops[(0 : OpIx)].waveform.toNat []).getD
      ((0x4000_0000#32).toNat / 2 ^ 22) 0#16).toInt ∧
    (32767 : Int) = rmChain State.reset.params 0 32767 [] := by decide +kernel

/-- The parameters at reset are those of the scenario (44_lut_mixer.md R170). -/
theorem witness_OperatorZeroAlone :
    (voiceWith .active sustained).life ≠ .free ∧ (∀ k : EdgeIx, State.reset.params.edges[k].enable = 0) ∧
    State.reset.params.mix[(0 : OpIx)].level = 16384 ∧ State.reset.params.mix[(0 : OpIx)].enable = 1 ∧
    (∀ i : OpIx, i ≠ 0 → State.reset.params.mix[i].enable = 0) ∧
    envLevel State.reset.params.ops[(0 : OpIx)] (voiceWith .active sustained).ops[(0 : OpIx)].env = 32768 := by
  decide +kernel

theorem witness_TickOfFreeVoice : State.reset.voices[1]? = some Voice.reset ∧ Voice.reset.life = .free := by
  decide +kernel

theorem witness_TickOfSoundingVoice :
    active.voices[0]? = some (voiceWith .active sustained) ∧ (voiceWith .active sustained).life ≠ .free := by
  decide +kernel

/-- An envelope on the last tick of its Release. -/
def lastRelease : Env := { stage := .release, k := 2#24, level := 1#16, l0 := 3#16 }

/-- Each lifecycle, a Releasing voice context that ends and one that goes on. -/
theorem witness_TickLifecycle :
    (voiceWith .active sustained).life = .active ∧ Voice.reset.life = .free ∧
    (voiceWith .releasing lastRelease).life = .releasing ∧
    (∀ i : OpIx, (envStep { State.reset.params.ops[i] with envRelease := 3 }
      (voiceWith .releasing lastRelease).ops[i].env).stage = .idle) ∧
    (∃ i : OpIx, (envStep { State.reset.params.ops[i] with envRelease := 4 }
      (voiceWith .releasing lastRelease).ops[i].env).stage ≠ .idle) := by decide +kernel

/-- Both kinds of voice context, the age at its limit, and a NOTE_ON that is legal at the top of its ranges. -/
theorem witness_AgeCounter :
    (voiceWith .active sustained).life ≠ .free ∧ Voice.reset.life = .free ∧
    ageNext 0xFFFF_FFFF#32 = 0xFFFF_FFFF#32 ∧ ageNext 0xFFFF_FFFE#32 = 0xFFFF_FFFF#32 ∧
    1 < State.reset.cfg.numVoices ∧ State.reset.voices[1]? = some Voice.reset ∧ 127 ≤ 127 := by decide +kernel

/-- Two states that differ in another voice context and in STATUS. -/
theorem witness_VoicesAreIndependent :
    active.cfg.numVoices = State.reset.cfg.numVoices ∧ active.params = State.reset.params ∧
    active.voices[1]? = State.reset.voices[1]? ∧ active.voices[0]? ≠ State.reset.voices[0]? := by decide +kernel

theorem witness_VoicesAreIndependent_cfg : active.cfg = State.reset.cfg := rfl

theorem witness_CommandsAreIdempotent : Instr.kill 0 ≠ .tick := by decide

/-- A word that sets a bit: the bit is new after the step. -/
theorem witness_AtMostOneStatusBit :
    step (withWord State.reset 0xF000_0000_0000_0000#64) = .next { State.reset with status := 1#32 } ∧
    (1#32).getLsbD 0 = true ∧ State.reset.status.getLsbD 0 = false :=
  ⟨rfl, by decide, by decide⟩

theorem witness_StatusBitsAreSticky :
    step (withWord { State.reset with status := 0x7F#32 } 0xF000_0000_0000_0000#64) =
      .next { State.reset with status := 0x7F#32 } ∧
    (∀ value : Word32, decode 0xF000_0000_0000_0000#64 ≠ .command (.setp 0x0F00 value)) ∧
    (0x7F#32).getLsbD 6 = true := by
  refine ⟨rfl, fun value h => ?_, by decide⟩
  have hd : decode 0xF000_0000_0000_0000#64 = .illegal := test_decode_illegal.1
  exact absurd (hd.symm.trans h) (by simp)

/-- Each error bit, a word that raises none, the bit set before and not, and the voice contexts counted. -/
theorem witness_ErrorChangesNothingElse :
    (withWord State.reset 0xF000_0000_0000_0000#64).input = [0xF000_0000_0000_0000#64] ∧
    State.reset.voices.length = State.reset.cfg.numVoices ∧
    [0xF000_0000_0000_0000#64, 0x9100_FF00_0000_0000#64, 0x3000_0F02_0000_0000#64, 0x1000_0F01_0000_0000#64,
     0x4002_8000_0000_0000#64, 0x4000_4080_0000_0000#64, 0x9000_2600_0000_0000#64, 0x7000_0000_0000_0000#64].map
      (fun w => errorBit State.reset.cfg (decode w)) =
      [some 0, some 1, some 2, some 3, some 4, some 5, some 5, none] ∧
    State.reset.status.getLsbD 5 = false ∧ ({ State.reset with status := 0x20#32 } : State).status.getLsbD 5 = true := by
  decide +kernel

/-- A word that changes a parameter and a word that changes a voice context. -/
theorem witness_OnlyTheNamedWriters :
    (nextState? (step (withWord State.reset 0x1000_0700_0000_0064#64))).map
      (fun t => decide (t.params ≠ State.reset.params)) = some true ∧
    (nextState? (step (withWord State.reset 0x4000_4064_0000_0000#64))).map
      (fun t => decide (t.voices ≠ State.reset.voices)) = some true := by decide +kernel

/-- Each of the three commands answers a next state, and another voice context is there. -/
theorem witness_VoiceCommandsTouchOneVoice :
    (nextState? (exec (.non 0 127 127) active)).isSome = true ∧ (nextState? (exec (.noff 0) active)).isSome = true ∧
    (nextState? (exec (.kill 0) active)).isSome = true ∧ (1 : Nat) ≠ 0 := by decide +kernel

/-- The reset state meets the invariant, and takes a step. -/
theorem witness_StepKeepsInvariant :
    (withWord State.reset 0x7000_0000_0000_0000#64).Inv ∧
    ∃ t, step (withWord State.reset 0x7000_0000_0000_0000#64) = .next t := by
  refine ⟨⟨inRange_reset, by decide, by decide +kernel, fun v hv => ?_⟩, ⟨_, rfl⟩⟩
  have h : v = Voice.reset := List.eq_of_mem_replicate hv
  subst h
  refine ⟨?_, fun i => ?_⟩
  · show ∀ i : OpIx, Voice.reset.ops[i].env.stage = .idle
    decide
  · simp [Voice.reset, OpCtx.reset, Env.reset, Env.ok, Stage.timed]

end Sys2Proof.Tests
end

section
/-! PROOFS. Reserved words (30_encoding.md R84): how such a word decodes, what the step then runs, and the one state it
answers. -/

namespace Sys2Proof.Machine

/-- The must-be-zero check of 30_encoding.md R86, failing. -/
theorem decode_of_mask_mismatch {w : Word64} {op : Opcode} (hop : bits w 63 60 = op.code)
    (hmask : w &&& op.mask ≠ op.matchWord) : decode w = .reserved op := by
  have hcode : Opcode.ofCode (bits w 63 60) = some op := (ofCode_eq_some_iff _ op).mpr hop
  simp only [decode, hcode, if_neg hmask]

theorem step_of_reserved {s : State} {w : Word64} {rest : List Word64} {op : Opcode} (hi : s.input = w :: rest)
    (hd : decode w = .reserved op) : step s = execReserved op w { s with input := rest } := by
  simp only [step, fetch?_cons s w hi, hd]

/-- What a reserved word puts on the response port: the one response, with ERR = 1, of a read (30_encoding.md R84). -/
def reservedEvents (op : Opcode) (w : Word64) : List Event :=
  match op with
  | .readParam => [.response (paramResponse true (idField w) 0#32)]
  | .readVoice => [.response (voiceResponse true (voiceField w) (selField w) 0#40)]
  | _ => []

theorem flag_reserved_eq (s : State) : s.flag .reserved = { s with status := s.status ||| 0x02#32 } := rfl

/-- The exact state after a reserved word; `execReserved_eq` does not say which response. -/
theorem execReserved_eq_next (op : Opcode) (w : Word64) (s : State) :
    execReserved op w s = .next { s with
      status := s.status ||| 0x02#32
      out := s.out ++ reservedEvents op w } := by
  have silent : raiseError .reserved s = .next { s with status := s.status ||| 0x02#32, out := s.out ++ [] } := by
    rw [raiseError_eq, flag_reserved_eq, List.append_nil]
  cases op with
  | readParam => rfl
  | readVoice => rfl
  | nop | setParam | beginEdit | endEdit | noteOn | noteOff | voiceKill | tick => exact silent

/-- Settles O11: a failing mask check decodes to a reserved word, whose meaning is one STATUS bit and a read's response. -/
theorem reservedWordSetsOneBit : Obligations.ReservedWordSetsOneBit := by
  intro s w rest op hi hop hmask
  rw [step_of_reserved hi (decode_of_mask_mismatch hop hmask), execReserved_eq_next]
  -- The statement writes `reservedEvents` out case by case.
  cases op <;> rfl

end Sys2Proof.Machine
end

section
/-! PROOFS. NOTE_ON and VOICE_KILL (47_voice_commands.md R210, R212): what each leaves in the voice context it names,
field by field, the envelopes included (41_envelope.md R125, R126). -/

namespace Sys2Proof.Machine

section Fields

variable (p : OpParams) (E : Env) (o : OpCtx)

@[simp] theorem envStart_k : (envStart p E).k = 0#24 := rfl
@[simp] theorem envStart_level : (envStart p E).level = 0#16 := rfl
@[simp] theorem envStart_l0 : (envStart p E).l0 = 0#16 := rfl

/-- A note-on starts in the first stage with a nonzero duration (41_envelope.md R122, R126). -/
theorem envStart_stage :
    (envStart p E).stage =
      if p.envDelay ≠ 0 then .delay
      else if p.envAttack ≠ 0 then .attack
      else if p.envHold ≠ 0 then .hold
      else if p.envDecay ≠ 0 then .decay
      else .sustain := by
  simp only [envStart, enter_stage, landing_delay, landing_attack, landing_hold, landing_decay, ite_not]

@[simp] theorem noteOnOp_phase : (noteOnOp p o).phase = BitVec.ofInt 32 p.startPhase := rfl
@[simp] theorem noteOnOp_prev : (noteOnOp p o).prev = 0#16 := rfl
@[simp] theorem noteOnOp_lfo : (noteOnOp p o).lfo = if p.lfoRetrig = 1 then 0#32 else o.lfo := rfl
@[simp] theorem noteOnOp_env : (noteOnOp p o).env = envStart p o.env := rfl

variable (P : Params) (note vel : Nat) (v : Voice)

@[simp] theorem noteOn_life : (noteOn P note vel v).life = .active := rfl
@[simp] theorem noteOn_age : (noteOn P note vel v).age = 0#32 := rfl

/-- A legal note number fits its 7 bits (47_voice_commands.md R210). -/
theorem noteOn_note_toNat (h : note ≤ 127) : (noteOn P note vel v).note.toNat = note :=
  (BitVec.toNat_ofNat _ _).trans (Nat.mod_eq_of_lt (by omega))

/-- A legal velocity fits its 7 bits (47_voice_commands.md R210). -/
theorem noteOn_vel_toNat (h : vel ≤ 127) : (noteOn P note vel v).vel.toNat = vel :=
  (BitVec.toNat_ofNat _ _).trans (Nat.mod_eq_of_lt (by omega))

@[simp] theorem voiceKill_life : (voiceKill v).life = .free := rfl
@[simp] theorem voiceKill_note : (voiceKill v).note = v.note := rfl
@[simp] theorem voiceKill_vel : (voiceKill v).vel = v.vel := rfl
@[simp] theorem voiceKill_age : (voiceKill v).age = v.age := rfl

end Fields

/-- Settles O23: a legal NOTE_ON replaces the voice context it names by its `noteOn` and writes nothing else. -/
theorem noteOnStartsVoice : Obligations.NoteOnStartsVoice := by
  intro s v note vel vc hv hget hnote hvel
  have hexec := execNon_good s (voice?_of_good s v vc hv hget) hnote hvel
  refine ⟨noteOn s.params note vel vc, hexec, noteOn_life .., noteOn_note_toNat _ _ _ _ hnote,
    noteOn_vel_toNat _ _ _ _ hvel, noteOn_age .., fun i => ?_⟩
  rw [noteOn_op, noteOnOp_env]
  exact ⟨noteOnOp_phase .., noteOnOp_prev .., noteOnOp_lfo .., envStart_level .., envStart_l0 .., envStart_k ..,
    envStart_stage ..⟩

/-- Settles O25: VOICE_KILL replaces the voice context it names by its `voiceKill` and writes nothing else. -/
theorem voiceKillFreesVoice : Obligations.VoiceKillFreesVoice := by
  intro s v vc hv hget
  have hexec := execKill_good s (voice?_of_good s v vc hv hget)
  refine ⟨voiceKill vc, hexec, voiceKill_life _, voiceKill_note _, voiceKill_vel _, voiceKill_age _, fun i => ?_⟩
  -- `voiceKill_op`: operator i differs in its envelope alone, which is `envKill`'s.
  rw [voiceKill_op]
  exact ⟨rfl, rfl, rfl, rfl⟩

end Sys2Proof.Machine
end

section
/-! PROOFS. The enumeration of the matrix edges (43_matrix.md R150). The edges into target t fill one row of indices: it
starts at t·(t − 1)/2, holds the t sources below t, and ends where the row of t + 1 starts. -/

namespace Sys2Proof.Machine

/-- The rows of two targets do not overlap. -/
theorem edgeRow_end_le {t u : Nat} (h : t < u) : t * (t - 1) / 2 + t ≤ u * (u - 1) / 2 :=
  calc t * (t - 1) / 2 + t
      = (t + 1) * (t + 1 - 1) / 2 := (Nat.triangle_succ t).symm
    _ ≤ u * (u - 1) / 2 := Nat.div_le_div_right (Nat.mul_le_mul h (Nat.sub_le_sub_right h 1))

/-- The closed form is never reduced modulo 15: every row with t ≤ 5 ends at or below 15, where the row of 6 would
start. -/
theorem edgeIndex_val {s t : OpIx} (h : s < t) : (edgeIndex s t).val = t.val * (t.val - 1) / 2 + s.val := by
  have hrow : t.val * (t.val - 1) / 2 + t.val ≤ 15 := edgeRow_end_le t.isLt
  have hst : s.val < t.val := h
  exact Nat.mod_eq_of_lt (by omega)

/-- The search for the target of each of the 15 edges finds the row the index lies in. -/
theorem edgeTarget_spec (k : EdgeIx) :
    edgeTarget k ≤ 5 ∧ edgeTarget k * (edgeTarget k - 1) / 2 ≤ k.val ∧
      k.val < edgeTarget k * (edgeTarget k - 1) / 2 + edgeTarget k := by
  revert k
  decide

/-- An index lies in the row of one target only. -/
theorem edgeTarget_eq {k : EdgeIx} {t : Nat} (hstart : t * (t - 1) / 2 ≤ k.val)
    (hend : k.val < t * (t - 1) / 2 + t) : edgeTarget k = t := by
  obtain ⟨-, hstart', hend'⟩ := edgeTarget_spec k
  rcases Nat.lt_trichotomy (edgeTarget k) t with hlt | heq | hgt
  · have hrows := edgeRow_end_le hlt
    omega
  · exact heq
  · have hrows := edgeRow_end_le hgt
    omega

theorem edgeTarget_edgeIndex {s t : OpIx} (h : s < t) : edgeTarget (edgeIndex s t) = t.val := by
  have hval := edgeIndex_val h
  have hst : s.val < t.val := h
  exact edgeTarget_eq (by omega) (by omega)

theorem edgeSource_edgeIndex {s t : OpIx} (h : s < t) : edgeSource (edgeIndex s t) = s.val := by
  rw [edgeSource, edgeTarget_edgeIndex h, edgeIndex_val h, Nat.add_sub_cancel_left]

/-- The source is the place of the index in its target's row. -/
theorem edgeTarget_row_add_edgeSource (k : EdgeIx) :
    edgeTarget k * (edgeTarget k - 1) / 2 + edgeSource k = k.val :=
  Nat.add_sub_of_le (edgeTarget_spec k).2.1

theorem edgeSource_lt_edgeTarget (k : EdgeIx) : edgeSource k < edgeTarget k := by
  obtain ⟨-, -, hend⟩ := edgeTarget_spec k
  have hk := edgeTarget_row_add_edgeSource k
  omega

/-- Settles O34: the closed form places s < t in the row of t, and every index lies in exactly one row. -/
theorem edgeEnumeration : Obligations.EdgeEnumeration := by
  refine ⟨fun s t h => ⟨edgeIndex_val h, edgeTarget_edgeIndex h, edgeSource_edgeIndex h⟩, fun k => ?_⟩
  obtain ⟨hle, hstart, hend⟩ := edgeTarget_spec k
  -- The statement names the end of the row by the start of the next one.
  exact ⟨edgeSource_lt_edgeTarget k, hle, (edgeTarget_row_add_edgeSource k).symm, hstart,
    hend.trans_eq (Nat.triangle_succ _).symm⟩

end Sys2Proof.Machine
end

section
/-! PROOFS. TICK (45_tick.md R180, R182): the state it answers, and a Free voice context with its sample. -/

namespace Sys2Proof.Machine

theorem exec_tick (s : State) :
    exec .tick s = .next { s with
      voices := s.voices.map (voiceAfterTick s.cfg s.params)
      out := s.out ++ [.samples (s.voices.map (voiceSample s.cfg s.params))] } := rfl

theorem voiceSample_of_free (c : Config) (p : Params) {v : Voice} (h : v.life = .free) :
    voiceSample c p v = 0#16 := if_pos h

/-- Settles O41: TICK turns a Free voice context into its `tickFree`, which differs in the LFO phases alone. -/
theorem tickOfFreeVoice : Obligations.TickOfFreeVoice := by
  intro s v vc hget hfree
  have hvoice : (s.voices.map (voiceAfterTick s.cfg s.params))[v]? = some (tickFree s.params vc) := by
    rw [List.getElem?_map, hget, Option.map_some, voiceAfterTick_of_free _ _ _ hfree]
  have hsample : (s.voices.map (voiceSample s.cfg s.params))[v]? = some 0#16 := by
    rw [List.getElem?_map, hget, Option.map_some, voiceSample_of_free _ _ hfree]
  refine ⟨_, _, tickFree s.params vc, exec_tick s, hvoice, hsample, (tickFree_life ..).trans hfree,
    tickFree_note .., tickFree_vel .., tickFree_age .., fun i => ?_⟩
  -- `tickFree_op`: operator i differs in its LFO phase alone, which is `lfoNext`'s (42_lfo.md R141).
  rw [tickFree_op]
  exact ⟨rfl, rfl, rfl, rfl⟩

end Sys2Proof.Machine
end

section
/-! PROOFS. The parameter commands NOP (46_param_commands.md R190) and SET_PARAM to STATUS (R193). -/

namespace Sys2Proof.Machine

@[simp] theorem opcode_operands (op : Opcode) (w : Word64) : (operands op w).opcode = op := by cases op <;> rfl

/-- A word that decodes to a command passed the must-be-zero check of its opcode (30_encoding.md R86). -/
theorem and_mask_of_decode {w : Word64} {i : Instr} (h : decode w = .command i) :
    w &&& i.opcode.mask = i.opcode.matchWord := by
  unfold decode at h
  split at h
  · cases h
  · split at h
    · next hmask =>
      cases h
      rwa [opcode_operands]
    · cases h

/-- NOP has no operands: its mask fixes every bit. -/
theorem and_nop_mask (w : Word64) : w &&& Opcode.nop.mask = w := BitVec.and_allOnes

/-- The all-zero word is the only NOP word. -/
theorem decode_eq_nop_iff (w : Word64) : decode w = .command .nop ↔ w = 0#64 := by
  constructor
  · intro h
    exact (and_nop_mask w).symm.trans (and_mask_of_decode h)
  · rintro rfl
    rfl

/-- OP and the 60 bits below it are the whole word. -/
theorem eq_zero_iff_of_op_zero {w : Word64} (hop : bits w 63 60 = 0) : w = 0#64 ↔ bits w 59 0 = 0 := by
  rw [← BitVec.toNat_inj]
  simp only [bits, BitVec.toNat_ofNat] at hop ⊢
  have hw := w.isLt
  omega

theorem step_of_command {s : State} {w : Word64} {rest : List Word64} {i : Instr} (hi : s.input = w :: rest)
    (hd : decode w = .command i) : step s = exec i { s with input := rest } := by
  simp only [step, fetch?_cons s w hi, hd]

theorem exec_nop (s : State) : exec .nop s = .next s := rfl

/-- Settles O15: a word with OP = 0 is the NOP word when its other bits are 0, and fails NOP's mask check otherwise. -/
theorem nopWord : Obligations.NopWord := by
  refine ⟨exec_nop, decode_eq_nop_iff, fun s w rest hi hop => ⟨fun hlow => ?_, fun hlow => ?_⟩⟩
  · have hd : decode w = .command .nop := (decode_eq_nop_iff w).mpr ((eq_zero_iff_of_op_zero hop).mpr hlow)
    rw [step_of_command hi hd, exec_nop]
  · have hmask : w &&& Opcode.nop.mask ≠ Opcode.nop.matchWord := by
      rw [and_nop_mask]
      exact fun hw => hlow ((eq_zero_iff_of_op_zero hop).mp hw)
    have hd : decode w = .reserved .nop := decode_of_mask_mismatch hop hmask
    rw [step_of_reserved hi hd, execReserved_eq_next]
    simp only [reservedEvents, List.append_nil]

theorem lookupId_status : lookupId 0x0F00 = some .status := by decide

theorem exec_setp_status (s : State) (value : Word32) :
    exec (.setp 0x0F00 value) s = .next { s with status := clearStatus s.status value } :=
  execSetp_status s lookupId_status value

/-- Settles O17: the write is `clearStatus` on STATUS, whose bits `getLsbD_clearStatus` gives, and touches no other
field. -/
theorem setParamClearsStatus : Obligations.SetParamClearsStatus := by
  intro s value
  exact ⟨_, exec_setp_status s value, rfl, getLsbD_clearStatus s.status value, rfl⟩

end Sys2Proof.Machine
end

section
/-! PROOFS. The invariant of the machine: what one envelope tick leaves is legal (41_envelope.md R123; 10_state.md
Table 10-7), so a tick of a voice context is (R33), and so is every effect of a command. -/

namespace Sys2Proof.Machine

/-- A tick keeps an envelope legal: inside a stage the count stays below the duration, and past its end it is 0. -/
theorem envStep_ok {p : OpParams} {E : Env} (hp : p.envInRange) (hE : E.ok) : (envStep p E).ok := by
  obtain ⟨-, hl0, hk⟩ := id hE
  obtain ⟨hlo, hhi⟩ := envLevel_bounds hp hl0
  refine ⟨?_, by rwa [envStep_l0], ?_⟩
  · have hlevel := ofInt16_toNat hlo hhi
    rw [envStep_level]
    omega
  · rcases hd : duration p E.stage with _ | d
    · obtain ⟨hstage, hcount⟩ := envStep_of_untimed p E hd
      rwa [hstage, hcount]
    · rcases lt_or_ge ((E.k.toNat : Int) + 1) d with hrun | hover
      · obtain ⟨hstage, hcount⟩ := envStep_counts hE hd hrun
        obtain ⟨-, hmax⟩ := hp.duration_bounds hd
        have htimed : E.stage.timed = true := by rw [← duration_isSome p, hd]; rfl
        rw [hstage, if_pos htimed, hcount]
        omega
      · rw [(envStep_of_over p E hd hover).2]
        split <;> simp

/-- The lifecycle matches the envelopes after a tick of a sounding voice context (10_state.md R33). -/
theorem tickVoice_lifeOk (c : Config) {p : Params} {v : Voice} (hv : v.lifeOk) (hlife : v.life ≠ .free) :
    (tickVoice c p v).lifeOk := by
  have henv : ∀ i : OpIx, (tickVoice c p v).ops[i].env = envStep p.ops[i] v.ops[i].env := fun i => by
    rw [tickVoice_op]; rfl
  unfold Voice.lifeOk at hv ⊢
  rw [tickVoice_life]
  simp only [henv]
  rcases hl : v.life with _ | _ | _ <;> simp only [hl] at hv
  case free => exact absurd hl hlife
  case active =>
    simp only [reduceCtorEq, false_and, if_false]
    exact fun i => (Stage.sounding_iff _).mp (envStep_sounding _ _ ((Stage.sounding_iff _).mpr (hv i)))
  case releasing =>
    have hrel := fun i => envStep_releasing p.ops[i] v.ops[i].env (hv.1 i)
    by_cases hall : ∀ i : OpIx, (envStep p.ops[i] v.ops[i].env).stage = .idle
    · rw [if_pos ⟨rfl, hall⟩]
      exact hall
    · rw [if_neg fun h => hall h.2]
      obtain ⟨i, hi⟩ := not_forall.mp hall
      exact ⟨hrel, i, (hrel i).resolve_right hi⟩

/-- A tick keeps a voice context legal (10_state.md R33). -/
theorem voiceAfterTick_ok (c : Config) {nw : Nat} {p : Params} {v : Voice} (hp : p.inRange nw) (hv : v.ok) :
    (voiceAfterTick c p v).ok := by
  obtain ⟨hlife, henv⟩ := hv
  by_cases hfree : v.life = .free
  · rw [voiceAfterTick_of_free c p v hfree]
    refine ⟨?_, fun i => by rw [tickFree_op]; exact henv i⟩
    unfold Voice.lifeOk at hlife ⊢
    simp only [tickFree_life, tickFree_op, hfree] at hlife ⊢
    exact hlife
  · rw [voiceAfterTick_of_not_free c p v hfree]
    refine ⟨tickVoice_lifeOk c hlife hfree, fun i => ?_⟩
    rw [tickVoice_op]
    exact envStep_ok (hp.envInRange i) (henv i)

/-- A value in its range may be stored. -/
theorem Params.inRange.set {nw : Nat} {p : Params} (hp : p.inRange nw) {n : ParamName} {x : Int}
    (hx : (paramRow nw n).min ≤ x ∧ x ≤ (paramRow nw n).max) : (p.set n x).inRange nw := by
  intro m
  by_cases hm : m = n
  · subst hm
    rwa [Params.get_set_same]
  · rw [Params.get_set_ne _ hm]
    exact hp m

variable {s : State}

theorem State.Inv.take (h : s.Inv) (rest : List Word64) : State.Inv { s with input := rest } :=
  ⟨h.params, h.status, h.count, h.voices⟩

theorem State.Inv.flag (h : s.Inv) (b : StatusBit) : (s.flag b).Inv :=
  ⟨h.params, setStatus_lt h.status b, h.count, h.voices⟩

theorem State.Inv.respond (h : s.Inv) (w : Word64) : (s.respond w).Inv := ⟨h.params, h.status, h.count, h.voices⟩

theorem State.Inv.setVoice (h : s.Inv) (v : Nat) {vc : Voice} (hvc : vc.ok) : (s.setVoice v vc).Inv :=
  ⟨h.params, h.status, by rw [setVoice_voices, List.length_set]; exact h.count,
    fun u hu => (List.mem_or_eq_of_mem_set hu).elim (h.voices u) fun e => e ▸ hvc⟩

theorem State.Inv.clearStatus (h : s.Inv) (value : Word32) :
    State.Inv { s with status := clearStatus s.status value } :=
  ⟨h.params, clearStatus_lt h.status value, h.count, h.voices⟩

theorem State.Inv.storeParam (h : s.Inv) (n : ParamName) (value : Word32) : (storeParam n value s).Inv := by
  rw [storeParam_eq]
  refine ⟨h.params.set (storedValue_mem (numWaves_pos s.cfg) n value), ?_, h.count, h.voices⟩
  dsimp only
  split
  · exact setStatus_lt h.status .clamped
  · exact h.status

theorem State.Inv.tickAll (h : s.Inv) : (tickAll s).Inv := by
  refine ⟨h.params, h.status, (List.length_map ..).trans h.count, fun v hv => ?_⟩
  obtain ⟨u, hu, rfl⟩ := List.mem_map.mp hv
  exact voiceAfterTick_ok s.cfg h.params (h.voices u hu)

/-- A voice context that an operand names is one of the list. -/
theorem State.Inv.voice?_ok (h : s.Inv) {v : Nat} {vc : Voice} (hv : s.voice? v = some vc) : vc.ok :=
  h.voices vc (List.mem_of_getElem? ((voice?_eq_some_iff s v vc).mp hv).2)

/-- Every effect of a command keeps the invariant. -/
theorem Effect.keeps_inv {i : Instr} {t : State} (he : Effect i s t) (h : s.Inv) : t.Inv := by
  cases he with
  | nothing => exact h
  | error b => exact h.flag b
  | errorResponse b _ _ w => exact (h.respond w).flag b
  | response _ w => exact h.respond w
  | stored _ value n => exact h.storeParam n value
  | cleared _ value => exact h.clearStatus value
  | started v note vel vc => exact h.setVoice v (noteOn_ok s.params note vel vc)
  | released v vc _ hv => exact h.setVoice v (noteOff_ok (h.voice?_ok hv))
  | killed v vc => exact h.setVoice v (voiceKill_ok vc)
  | ticked => exact h.tickAll

/-- With no word to take a step waits. -/
theorem step_of_nil (hi : s.input = []) : step s = .next s := by simp only [step, fetch?_nil s hi]

/-- Settles O53: a step waits, raises an error, or has the effect of a command, and each keeps the invariant. -/
theorem stepKeepsInvariant : Obligations.StepKeepsInvariant := by
  intro s t h hstep
  rcases hi : s.input with _ | ⟨w, rest⟩
  · rw [step_of_nil hi] at hstep
    cases hstep
    exact h
  · have htaken := h.take rest
    rcases step_effect hi hstep with ⟨b, -, ht, -⟩ | ⟨i, -, he⟩
    · rcases ht with rfl | ⟨r, rfl⟩
      · exact htaken.flag b
      · exact (htaken.respond r).flag b
    · exact he.keeps_inv htaken

/-- The parameters at reset, read by name (70_reset_and_hazards.md R250). -/
theorem Params.get_reset (nw : Nat) (n : ParamName) : (Params.reset nw).get n = (paramRow nw n).reset :=
  Params.get_ofNames _ n

@[simp] theorem Voice.reset_op (i : OpIx) : Voice.reset.ops[i] = OpCtx.reset := by simp [Voice.reset]

theorem Voice.reset_ok : Voice.reset.ok := by
  refine ⟨fun i => ?_, fun i => ?_⟩ <;> rw [Voice.reset_op]
  · rfl
  · simp [OpCtx.reset, Env.reset, Env.ok, Stage.timed]

/-- Settles O54: every reset value is in its range, and every voice context is Free with Idle envelopes. -/
theorem resetMeetsInvariant : Obligations.ResetMeetsInvariant := by
  intro c
  refine ⟨fun n => ?_, Nat.two_pow_pos 7, List.length_replicate, fun v hv => ?_⟩
  · rw [State.resetWith, Params.get_reset]
    exact paramRow_reset_mem (numWaves_pos c) n
  · rw [List.eq_of_mem_replicate hv]
    exact Voice.reset_ok

/-- Settles O55: every parameter reads the reset column of its row, and every voice context is `Voice.reset`. -/
theorem resetValues : Obligations.ResetValues := by
  intro s
  have hget : ∀ n, (applyReset s).params.get n = (paramRow s.cfg.numWaves n).reset := Params.get_reset _
  refine ⟨fun i => ?_, fun k => ?_, hget .master, hget, rfl, rfl, rfl, List.length_replicate, fun vc hvc => ?_⟩
  · simp only [hget]
    exact ⟨rfl, rfl, by simp [paramRow, mixRow], by simp [paramRow, mixRow]⟩
  · simp only [hget]
    exact ⟨rfl, rfl, rfl⟩
  · obtain rfl := List.eq_of_mem_replicate hvc
    refine ⟨rfl, rfl, rfl, rfl, fun i => ?_⟩
    rw [Voice.reset_op]
    exact ⟨rfl, rfl, rfl, rfl, rfl, rfl, rfl⟩

end Sys2Proof.Machine
end

section
/-! PROOFS. The decoder and the encoder (30_encoding.md R82 to R86, Table 30-4): the must-be-zero check read by field,
the operands of an encoding, and the encoding of a word that passed the check. -/

namespace Sys2Proof

section Fields

variable (o r : BitVec 4) (v n l : BitVec 8) (x : Word32)

@[simp] theorem bits_joinWord_59_56 : bits (joinWord o r v n l x) 59 56 = r.toNat := by
  simp only [bits, toNat_joinWord]; omega

@[simp] theorem bits_joinWord_59_48 : bits (joinWord o r v n l x) 59 48 = r.toNat * 2 ^ 8 + v.toNat := by
  simp only [bits, toNat_joinWord]; omega

@[simp] theorem bits_joinWord_47_0 :
    bits (joinWord o r v n l x) 47 0 = (n.toNat * 2 ^ 8 + l.toNat) * 2 ^ 32 + x.toNat := by
  simp only [bits, toNat_joinWord]; omega

@[simp] theorem bits_joinWord_39_0 : bits (joinWord o r v n l x) 39 0 = l.toNat * 2 ^ 32 + x.toNat := by
  simp only [bits, toNat_joinWord]; omega

@[simp] theorem bits_joinWord_31_0 : bits (joinWord o r v n l x) 31 0 = x.toNat := by
  simp only [bits, toNat_joinWord]; omega

@[simp] theorem bits_joinWord_59_0 :
    bits (joinWord o r v n l x) 59 0 =
      (((r.toNat * 2 ^ 8 + v.toNat) * 2 ^ 8 + n.toNat) * 2 ^ 8 + l.toNat) * 2 ^ 32 + x.toNat := by
  simp only [bits, toNat_joinWord]; omega

end Fields

theorem bitVec_eq_zero_iff {k : Nat} (a : BitVec k) : a = 0#k ↔ a.toNat = 0 := by
  rw [← BitVec.toNat_inj, BitVec.toNat_ofNat, Nat.zero_mod]

/-- The must-be-zero check of each opcode by bit range, as the pseudocode of its rule writes it. -/
theorem mask_matches_iff {w : Word64} {op : Opcode} (hop : bits w 63 60 = op.code) :
    w &&& op.mask = op.matchWord ↔ match op with
      | .nop => bits w 59 0 = 0
      | .setParam => bits w 59 48 = 0
      | .beginEdit => bits w 59 48 = 0 ∧ bits w 31 0 = 0
      | .endEdit => bits w 59 48 = 0 ∧ bits w 31 0 = 0
      | .noteOn => bits w 59 56 = 0 ∧ bits w 31 0 = 0
      | .noteOff => bits w 59 56 = 0 ∧ bits w 47 0 = 0
      | .voiceKill => bits w 59 56 = 0 ∧ bits w 47 0 = 0
      | .tick => bits w 59 0 = 0
      | .readParam => bits w 59 48 = 0 ∧ bits w 31 0 = 0
      | .readVoice => bits w 59 56 = 0 ∧ bits w 39 0 = 0 := by
  obtain ⟨o, r, v, n, l, x, rfl⟩ := exists_joinWord w
  have ho : o = BitVec.ofNat 4 op.code := by
    rw [bits_joinWord_op] at hop
    rw [← hop, BitVec.ofNat_toNat, BitVec.setWidth_eq]
  rw [mask_eq_joinWord, matchWord_eq_joinWord]
  cases op <;>
    simp only [joinWord_and, joinWord_inj, and_ones4, and_ones8, and_ones32, BitVec.and_zero, ho, true_and, and_true,
      bitVec_eq_zero_iff, bits_joinWord_59_0, bits_joinWord_59_48, bits_joinWord_59_56, bits_joinWord_47_0,
      bits_joinWord_39_0, bits_joinWord_31_0] <;>
    omega

/-- Decoding a word with a legal OP (30_encoding.md R86), its must-be-zero check given as any equivalent `P`. -/
theorem decode_of_op {w : Word64} {op : Opcode} {P : Prop} [Decidable P] (hop : bits w 63 60 = op.code)
    (hzero : w &&& op.mask = op.matchWord ↔ P) :
    decode w = if P then .command (operands op w) else .reserved op := by
  have hcode : Opcode.ofCode (bits w 63 60) = some op := (ofCode_eq_some_iff _ op).mpr hop
  simp only [decode, hcode, hzero]

theorem decode_of_illegal {w : Word64} (h : 0xA ≤ bits w 63 60) : decode w = .illegal := by
  have hcode : Opcode.ofCode (bits w 63 60) = none := (ofCode_eq_none_iff _).mpr h
  simp only [decode, hcode]

/-- The three things a word can be (30_encoding.md R84 to R86), each with the check that makes it so. -/
theorem decode_cases (w : Word64) :
    (0xA ≤ bits w 63 60 ∧ decode w = .illegal) ∨
    ∃ op : Opcode, bits w 63 60 = op.code ∧
      ((w &&& op.mask = op.matchWord ∧ decode w = .command (operands op w)) ∨
        (w &&& op.mask ≠ op.matchWord ∧ decode w = .reserved op)) := by
  rcases hcode : Opcode.ofCode (bits w 63 60) with _ | op
  · have hop := (ofCode_eq_none_iff _).mp hcode
    exact .inl ⟨hop, decode_of_illegal hop⟩
  · have hop := (ofCode_eq_some_iff _ op).mp hcode
    have hd := decode_of_op hop Iff.rfl
    by_cases hmask : w &&& op.mask = op.matchWord
    · exact .inr ⟨op, hop, .inl ⟨hmask, hd.trans (if_pos hmask)⟩⟩
    · exact .inr ⟨op, hop, .inr ⟨hmask, hd.trans (if_neg hmask)⟩⟩

/-- The fixed bits of every encoding are those of its opcode (30_encoding.md Tables 30-2, 30-4). -/
theorem encode_and_mask_eq_matchWord (i : Instr) : encode i &&& i.opcode.mask = i.opcode.matchWord := by
  cases i with
  | nop => exact Laws.EncodeFixed.nop
  | setp id value => exact Laws.EncodeFixed.setp id value
  | bedit id => exact Laws.EncodeFixed.bedit id
  | eedit id => exact Laws.EncodeFixed.eedit id
  | non voice note vel => exact Laws.EncodeFixed.non voice note vel
  | noff voice => exact Laws.EncodeFixed.noff voice
  | kill voice => exact Laws.EncodeFixed.kill voice
  | tick => exact Laws.EncodeFixed.tick
  | rdp id => exact Laws.EncodeFixed.rdp id
  | rdv voice sel => exact Laws.EncodeFixed.rdv voice sel

theorem bits_encode_op (i : Instr) : bits (encode i) 63 60 = i.opcode.code := by
  rw [encode_eq_joinWord]
  cases i <;> exact bits_joinWord_op ..

theorem toNat_ofNat_byte {k : Nat} (h : k < 256) : (BitVec.ofNat 8 k).toNat = k := by
  rw [BitVec.toNat_ofNat, Nat.mod_eq_of_lt h]

/-- The two bytes of an ID field hold the id (30_encoding.md R81). -/
theorem toNat_ofNat_id {id : Nat} (h : id < 65536) :
    (BitVec.ofNat 8 (id / 256)).toNat * 256 + (BitVec.ofNat 8 id).toNat = id := by
  simp only [BitVec.toNat_ofNat]
  omega

/-- Operands that fit their fields are read back as given (30_encoding.md R83). -/
theorem operands_encode {i : Instr} (h : i.wf = true) : operands i.opcode (encode i) = i := by
  rw [encode_eq_joinWord]
  cases i <;> simp only [Instr.wf, fitsId, fitsByte, Bool.and_eq_true, decide_eq_true_eq] at h <;>
    simp only [Instr.opcode, operands, idField_joinWord, voiceField_joinWord, noteField_joinWord, velField_joinWord,
      selField_joinWord, valueField_joinWord, toNat_ofNat_id, toNat_ofNat_byte, h]

/-- Settles O1: the encoding passes the mask check of its own opcode, and its operands are read back. -/
theorem decodeOfEncode : Obligations.DecodeOfEncode := by
  intro i hwf
  rw [decode_of_op (bits_encode_op i) Iff.rfl, if_pos (encode_and_mask_eq_matchWord i), operands_encode hwf]

/-- A field is narrower than its operand's limit (30_encoding.md R81). -/
theorem operands_wf (op : Opcode) (w : Word64) : (operands op w).wf = true := by
  obtain ⟨o, r, v, n, l, x, rfl⟩ := exists_joinWord w
  have hv := v.isLt
  have hn := n.isLt
  have hl := l.isLt
  cases op <;>
    simp only [operands, Instr.wf, fitsId, fitsByte, Bool.and_eq_true, decide_eq_true_eq, idField_joinWord,
      voiceField_joinWord, noteField_joinWord, velField_joinWord, selField_joinWord] <;>
    omega

/-- A word that passed the must-be-zero check is the encoding of its operands. -/
theorem encode_operands {op : Opcode} {w : Word64} (hmask : w &&& op.mask = op.matchWord) :
    encode (operands op w) = w := by
  obtain ⟨o, r, v, n, l, x, rfl⟩ := exists_joinWord w
  have hbyte : ∀ b : BitVec 8, BitVec.ofNat 8 b.toNat = b := fun b => by rw [BitVec.ofNat_toNat, BitVec.setWidth_eq]
  have hhigh : BitVec.ofNat 8 ((n.toNat * 256 + l.toNat) / 256) = n := BitVec.eq_of_toNat_eq (by
    rw [BitVec.toNat_ofNat]; omega)
  have hlow : BitVec.ofNat 8 (n.toNat * 256 + l.toNat) = l := BitVec.eq_of_toNat_eq (by
    rw [BitVec.toNat_ofNat]; omega)
  rw [mask_eq_joinWord, matchWord_eq_joinWord] at hmask
  rw [encode_eq_joinWord]
  cases op <;>
    simp only [joinWord_and, joinWord_inj, and_ones4, and_ones8, and_ones32, BitVec.and_zero, true_and, and_true,
      Opcode.code] at hmask <;>
    simp only [operands, idField_joinWord, voiceField_joinWord, noteField_joinWord, velField_joinWord,
      selField_joinWord, valueField_joinWord, hbyte, hhigh, hlow, hmask]

/-- Settles O2: the operands of a word fit their fields, and their encoding puts every bit of the word back. -/
theorem encodeOfDecode : Obligations.EncodeOfDecode := by
  intro w i h
  rcases decode_cases w with ⟨-, hd⟩ | ⟨op, -, ⟨hmask, hd⟩ | ⟨-, hd⟩⟩ <;> rw [hd] at h <;> cases h
  exact ⟨operands_wf op w, encode_operands hmask⟩

/-- Settles O3: the decoder's mask check is the check of the must-be-zero bit ranges, and OP above 9 has no opcode. -/
theorem decodeByFields : Obligations.DecodeByFields := by
  intro w
  exact ⟨fun h => decode_of_op (op := .nop) h (mask_matches_iff h),
    fun h => decode_of_op (op := .setParam) h (mask_matches_iff h),
    fun h => decode_of_op (op := .beginEdit) h (mask_matches_iff h),
    fun h => decode_of_op (op := .endEdit) h (mask_matches_iff h),
    fun h => decode_of_op (op := .noteOn) h (mask_matches_iff h),
    fun h => decode_of_op (op := .noteOff) h (mask_matches_iff h),
    fun h => decode_of_op (op := .voiceKill) h (mask_matches_iff h),
    fun h => decode_of_op (op := .tick) h (mask_matches_iff h),
    fun h => decode_of_op (op := .readParam) h (mask_matches_iff h),
    fun h => decode_of_op (op := .readVoice) h (mask_matches_iff h),
    decode_of_illegal⟩

/-- Settles O4: the ten words are closed, and the decoder computes. -/
theorem specWordsDecode : Obligations.SpecWordsDecode := by
  unfold Obligations.SpecWordsDecode
  decide

end Sys2Proof
end

section
/-! PROOFS. The byte order of a transport (20_memory.md R62): the bytes of a word and of a sample vector, and reading
them back. -/

namespace Sys2Proof

theorem ofNat_bits_eq_extractLsb' (w : Word64) (k : Nat) :
    BitVec.ofNat 8 (bits w (8 * k + 7) (8 * k)) = w.extractLsb' (8 * k) 8 := by
  have hwidth : 8 * k + 7 + 1 - 8 * k = 8 := by omega
  apply BitVec.eq_of_toNat_eq
  rw [BitVec.toNat_ofNat, bits, hwidth, Nat.mod_mod, BitVec.extractLsb'_toNat, Nat.shiftRight_eq_div_pow]

/-- Byte k of a word is bits [8k+7:8k]. -/
theorem wireBytes_eq (w : Word64) : wireBytes w = (List.range 8).map fun k => w.extractLsb' (8 * k) 8 := by
  simp only [← ofNat_bits_eq_extractLsb']
  rfl

/-- Eight bytes read back as the word they came from: a 64-bit number is the sum of its bytes. -/
theorem ofWireBytes_wireBytes (w : Word64) (rest : List Byte) : ofWireBytes (wireBytes w ++ rest) = some (w, rest) := by
  simp only [wireBytes, List.cons_append, List.nil_append, ofWireBytes_cons]
  congr 2
  apply BitVec.eq_of_toNat_eq
  rw [toNat_wordOfBytes]
  simp only [bits, BitVec.toNat_ofNat, Nat.reducePow, Nat.reduceAdd, Nat.reduceSub, Nat.mod_mod, Nat.div_one]
  exact bytes_sum w.isLt

/-- Settles O5: byte k of the list of eight is the k-th slice of the word. -/
theorem wireBytesRoundTrip : Obligations.WireBytesRoundTrip := by
  intro w rest
  refine ⟨fun k hk => ?_, rfl, ofWireBytes_wireBytes w rest⟩
  rw [wireBytes_eq, List.getElem?_map, List.getElem?_range hk, Option.map_some]

theorem wireVector_length (vec : List Sample) : (wireVector vec).length = 2 * vec.length := by
  induction vec with
  | nil => rfl
  | cons x vec ih => rw [wireVector_cons, List.length_cons, List.length_cons, ih, List.length_cons]; omega

/-- Byte 2v + k of a sample vector is byte k of sample v. -/
theorem wireVector_getElem? (vec : List Sample) (v : Nat) {k : Nat} (hk : k < 2) :
    (wireVector vec)[2 * v + k]? = vec[v]?.map fun x => x.extractLsb' (8 * k) 8 := by
  induction vec generalizing v with
  | nil => rfl
  | cons x vec ih =>
    cases v with
    | zero => interval_cases k <;> rfl
    | succ v =>
      have hskip : 2 * (v + 1) + k = 2 * v + k + 1 + 1 := by omega
      rw [wireVector_cons, hskip, List.getElem?_cons_succ, List.getElem?_cons_succ, List.getElem?_cons_succ]
      exact ih v

/-- The two bytes of a sample put it together again. -/
theorem sample_of_bytes (x : Sample) : x.extractLsb' 8 8 ++ x.extractLsb' 0 8 = x := by
  apply BitVec.eq_of_toNat_eq
  have hx := x.isLt
  simp only [toNat_append_eq, BitVec.extractLsb'_toNat, Nat.shiftRight_eq_div_pow]
  omega

theorem ofWireVector_wireVector (vec : List Sample) (rest : List Byte) :
    ofWireVector vec.length (wireVector vec ++ rest) = some (vec, rest) := by
  induction vec with
  | nil => rfl
  | cons x vec ih =>
    rw [wireVector_cons, List.cons_append, List.cons_append, List.length_cons, ofWireVector_succ, ih, Option.map_some,
      sample_of_bytes]

/-- Settles O56: each sample takes two bytes of the vector, its low one first. -/
theorem sampleBytesRoundTrip : Obligations.SampleBytesRoundTrip := by
  intro vec rest
  exact ⟨fun v k hk => wireVector_getElem? vec v hk, wireVector_length vec, ofWireVector_wireVector vec rest⟩

end Sys2Proof
end

section
/-! PROOFS. The words the block answers with: the fields of the two responses (30_encoding.md R87, R88, Table 30-3)
and the value of CONFIG (10_state.md R30). -/

namespace Sys2Proof.Machine

section Fields

variable (o r : BitVec 4) (v n l : BitVec 8) (x : Word32)

theorem bits_joinWord_59_57 : bits (joinWord o r v n l x) 59 57 = r.toNat / 2 := by
  simp only [bits, toNat_joinWord]; omega

theorem bits_joinWord_56_56 : bits (joinWord o r v n l x) 56 56 = r.toNat % 2 := by
  simp only [bits, toNat_joinWord]; omega

theorem bits_joinWord_55_48 : bits (joinWord o r v n l x) 55 48 = v.toNat := voiceField_joinWord ..

theorem bits_joinWord_47_40 : bits (joinWord o r v n l x) 47 40 = n.toNat := noteField_joinWord ..

theorem bits_joinWord_47_32 : bits (joinWord o r v n l x) 47 32 = n.toNat * 256 + l.toNat := idField_joinWord ..

end Fields

/-- Settles O7: each response is the join of its fields, and a field of a join is that field. -/
theorem responseWordFields : Obligations.ResponseWordFields := by
  have hflags : ∀ err : Bool, (BitVec.ofNat 4 err.toNat).toNat = err.toNat ∧ err.toNat / 2 = 0 ∧
      err.toNat % 2 = err.toNat := by decide
  refine ⟨fun err id rval hid => ?_, fun err voice sel pay hvoice hsel => ?_⟩
  · obtain ⟨herr, hhigh, hlow⟩ := hflags err
    rw [paramResponse_eq_joinWord, bits_joinWord_op, bits_joinWord_59_57, bits_joinWord_56_56, bits_joinWord_55_48,
      bits_joinWord_47_32, bits_joinWord_31_0, herr, toNat_ofNat_id hid]
    exact ⟨rfl, hhigh, hlow, rfl, rfl, rfl⟩
  · obtain ⟨herr, hhigh, hlow⟩ := hflags err
    have hpay : (field (pay.setWidth 64) 32 8).toNat * 2 ^ 32 + (field (pay.setWidth 64) 0 32).toNat = pay.toNat := by
      have := pay.isLt
      simp only [field_toNat, BitVec.toNat_setWidth]
      omega
    rw [voiceResponse_eq_joinWord, bits_joinWord_op, bits_joinWord_59_57, bits_joinWord_56_56, bits_joinWord_55_48,
      bits_joinWord_47_40, bits_joinWord_39_0, herr, hpay, toNat_ofNat_byte hvoice,
      toNat_ofNat_byte hsel]
    exact ⟨rfl, hhigh, hlow, rfl, rfl, rfl⟩

/-- A field placed above every bit of a word adds its weight. -/
theorem toNat_shiftLeft_or {m k : Nat} {a x : BitVec m} (hx : x.toNat < 2 ^ k) (ha : a.toNat * 2 ^ k < 2 ^ m) :
    (a <<< k ||| x).toNat = a.toNat * 2 ^ k + x.toNat := by
  rw [BitVec.toNat_or, BitVec.toNat_shiftLeft, Nat.shiftLeft_eq, Nat.mod_eq_of_lt ha, ← Nat.shiftLeft_eq,
    ← Nat.shiftLeft_add_eq_or_of_lt hx]

/-- The bounds of 70_reset_and_hazards.md R253 on the OPEN parameters. -/
theorem config_counts_le (c : Config) : c.numVoices ≤ 256 ∧ c.numWaves ≤ 16 := by
  have h := c.ok
  simp only [configOk, Bool.and_eq_true, decide_eq_true_eq] at h
  omega

/-- Settles O8: NUM_VOICES − 1 is below 2^8 and NUM_WAVES − 1 below 2^4, so each field lies above the one before it. -/
theorem configWordFields : Obligations.ConfigWordFields := by
  intro c
  obtain ⟨hvoices, hwaves⟩ := config_counts_le c
  have hops : (6#32).toNat = 6 := rfl
  have hrev : (1#32).toNat = 1 := rfl
  have hv : (BitVec.ofNat 32 (c.numVoices - 1)).toNat = c.numVoices - 1 := by rw [BitVec.toNat_ofNat]; omega
  have hw : (BitVec.ofNat 32 (c.numWaves - 1)).toNat = c.numWaves - 1 := by rw [BitVec.toNat_ofNat]; omega
  have hword : configWord c = 1#32 <<< 24 ||| (BitVec.ofNat 32 (c.numWaves - 1) <<< 16 |||
      (BitVec.ofNat 32 (c.numVoices - 1) <<< 8 ||| 6#32)) := by
    rw [configWord, BitVec.or_comm _ (1#32 <<< 24), BitVec.or_comm _ (BitVec.ofNat 32 (c.numWaves - 1) <<< 16),
      BitVec.or_comm 6#32]
  have h₁ := toNat_shiftLeft_or (k := 8) (a := BitVec.ofNat 32 (c.numVoices - 1)) (x := 6#32) (by omega) (by omega)
  have h₂ := toNat_shiftLeft_or (k := 16) (a := BitVec.ofNat 32 (c.numWaves - 1))
    (x := BitVec.ofNat 32 (c.numVoices - 1) <<< 8 ||| 6#32) (by omega) (by omega)
  rw [hword, toNat_shiftLeft_or (by omega) (by omega), h₂, h₁]
  omega

end Sys2Proof.Machine
end

section
/-! PROOFS. The parameter address map (20_memory.md R65; 10_state.md R25 to R30) and the table of the parameters
(10_state.md Tables 10-1, 10-2, 10-4, R26). -/

namespace Sys2Proof.Machine

theorem opFieldOffset_lt (f : OpField) : opFieldOffset f < 0x15 := by cases f <;> decide

theorem edgeFieldOffset_lt (f : EdgeField) : edgeFieldOffset f < 3 := by cases f <;> decide

theorem mixFieldOf_mixFieldOffset (f : MixField) : mixFieldOf (mixFieldOffset f) = f := by cases f <;> rfl

theorem mixFieldOffset_lt (f : MixField) : mixFieldOffset f < 2 := by cases f <;> decide

theorem lookupId_config : lookupId 0x0F01 = some .config := by decide

/-- Every id of the map names its parameter: base, stride and offset come apart again. -/
theorem lookupId_paramId (n : ParamName) : lookupId (paramId n) = some (.param n) := by
  unfold lookupId
  cases n with
  | op i f =>
    have hi := i.isLt
    have hf := opFieldOffset_lt f
    have hoff : paramId (.op i f) % 0x20 = opFieldOffset f := by simp only [paramId]; omega
    have hix : Fin.ofNat 6 ((paramId (.op i f) - 0x0100) / 0x20) = i := Fin.ext (by
      simp only [paramId, Fin.val_ofNat]; omega)
    rw [if_pos (by simp only [paramId]; omega), hoff, hix, opFieldOf_offset, Option.map_some]
  | fb i =>
    have hi := i.isLt
    have hix : Fin.ofNat 6 (paramId (.fb i) - 0x0400) = i := Fin.ext (by simp only [paramId, Fin.val_ofNat]; omega)
    rw [if_neg (by simp only [paramId]; omega), if_pos (by simp only [paramId]; omega), hix]
  | edge k f =>
    have hk := k.isLt
    have hf := edgeFieldOffset_lt f
    have hoff : paramId (.edge k f) % 4 = edgeFieldOffset f := by simp only [paramId]; omega
    have hix : Fin.ofNat 15 ((paramId (.edge k f) - 0x0500) / 4) = k := Fin.ext (by
      simp only [paramId, Fin.val_ofNat]; omega)
    rw [if_neg (by simp only [paramId]; omega), if_neg (by simp only [paramId]; omega),
      if_pos (by simp only [paramId]; omega), hoff, hix, edgeFieldOf_offset, Option.map_some]
  | mix i f =>
    have hi := i.isLt
    have hf := mixFieldOffset_lt f
    have hoff : paramId (.mix i f) % 2 = mixFieldOffset f := by simp only [paramId]; omega
    have hix : Fin.ofNat 6 ((paramId (.mix i f) - 0x0600) / 2) = i := Fin.ext (by
      simp only [paramId, Fin.val_ofNat]; omega)
    rw [if_neg (by simp only [paramId]; omega), if_neg (by simp only [paramId]; omega),
      if_neg (by simp only [paramId]; omega), if_pos (by simp only [paramId]; omega), hoff, hix,
      mixFieldOf_mixFieldOffset]
  | master => rfl

/-- The id of what an id names. -/
def targetId : Target → Nat
  | .param n => paramId n
  | .status => 0x0F00
  | .config => 0x0F01

/-- Each thing has one id: the row an id is decoded to has that id. -/
theorem targetId_of_lookupId {id : Nat} {t : Target} (h : lookupId id = some t) : id = targetId t := by
  unfold lookupId at h
  split_ifs at h with hop hfb hedge hmix hmaster hstatus hconfig
  · obtain ⟨f, hf, rfl⟩ := Option.map_eq_some_iff.mp h
    have hoff := opFieldOf_some hf
    simp only [targetId, paramId, Fin.val_ofNat]
    omega
  · cases h
    simp only [targetId, paramId, Fin.val_ofNat]
    omega
  · obtain ⟨f, hf, rfl⟩ := Option.map_eq_some_iff.mp h
    have hoff := edgeFieldOf_some hf
    simp only [targetId, paramId, Fin.val_ofNat]
    omega
  · cases h
    have hoff := mixFieldOf_offset id
    simp only [targetId, paramId, Fin.val_ofNat]
    omega
  · cases h
    exact hmaster
  · cases h
    exact hstatus
  · cases h
    exact hconfig

/-- Settles O6: `lookupId` inverts `paramId`, and what it answers has the id it was asked for. -/
theorem idMapExact : Obligations.IdMapExact := by
  refine ⟨fun i => ⟨rfl, rfl, rfl, rfl⟩, fun k => ⟨rfl, rfl, rfl⟩, rfl, lookupId_paramId, lookupId_status,
    lookupId_config, fun id n h => targetId_of_lookupId h, fun id h => targetId_of_lookupId h,
    fun id h => targetId_of_lookupId h⟩

/-- Settles O57: the rows of the model are those numbers; only a mixer slot's reset depends on its index. -/
theorem parameterTable : Obligations.ParameterTable := by
  intro numWaves
  refine ⟨fun i => rfl, fun i => rfl, fun k => ⟨rfl, rfl, rfl⟩, fun i => ?_, rfl⟩
  simp only [paramRow, mixRow, Fin.val_eq_zero_iff, and_self]

end Sys2Proof.Machine
end

section
/-! PROOFS. The step (00_scope.md R9; 30_encoding.md R86): a word that is illegal, a word that is a command, and what
both leave of the streams (70_reset_and_hazards.md R261; 30_encoding.md R80). -/

namespace Sys2Proof.Machine

/-- Settles O9: a step takes the first word and runs what it decodes to. -/
theorem stepRunsDecodedCommand : Obligations.StepRunsDecodedCommand := fun _ _ _ _ hi hd => step_of_command hi hd

theorem step_of_illegal {s : State} {w : Word64} {rest : List Word64} (hi : s.input = w :: rest)
    (hd : decode w = .illegal) : step s = .next (State.flag { s with input := rest } .illegalOp) := by
  simp only [step, fetch?_cons s w hi, hd, execIllegal, raiseError_eq]

/-- Settles O10: OP above 9 decodes to an illegal word, which raises its error. -/
theorem illegalWordSetsOneBit : Obligations.IllegalWordSetsOneBit := by
  intro s w rest hi hop
  rw [step_of_illegal hi (decode_of_illegal hop)]
  rfl

/-- Settles O12: no word is fetched from an empty stream. -/
theorem stepWaitsForInput : Obligations.StepWaitsForInput := fun _ hi => step_of_nil hi

/-- Every word answers a next state (70_reset_and_hazards.md R261). -/
theorem exists_step_eq_next {s : State} {w : Word64} {rest : List Word64} (hi : s.input = w :: rest) :
    ∃ t, step s = .next t := by
  rcases hd : decode w with _ | op | i
  · exact ⟨_, step_of_illegal hi hd⟩
  · exact ⟨_, (step_of_reserved hi hd).trans (execReserved_eq_next op w _)⟩
  · obtain ⟨t, ht, -⟩ := exec_effect { s with input := rest } i
    exact ⟨t, (step_of_command hi hd).trans ht⟩

/-- No command takes a word of the stream or changes the configuration. -/
theorem Effect.input_cfg {i : Instr} {s t : State} (he : Effect i s t) : t.input = s.input ∧ t.cfg = s.cfg := by
  cases he with
  | stored => rw [storeParam_eq]; exact ⟨rfl, rfl⟩
  | nothing | error | errorResponse | response | cleared | started | released | killed | ticked => exact ⟨rfl, rfl⟩

/-- Settles O13: an error and a command's effect both keep what is left of the stream. -/
theorem everyWordCompletes : Obligations.EveryWordCompletes := by
  intro s w rest hi
  obtain ⟨t, ht⟩ := exists_step_eq_next hi
  refine ⟨t, ht, ?_⟩
  rcases step_effect hi ht with ⟨b, -, rfl | ⟨r, rfl⟩, -⟩ | ⟨i, -, he⟩
  · exact ⟨rfl, rfl⟩
  · exact ⟨rfl, rfl⟩
  · exact he.input_cfg

theorem emitsLike_nil {i : Instr} (hr : responds i = false) (ht : i ≠ .tick) : emitsLike i [] := by
  cases i with
  | tick => exact absurd rfl ht
  | rdp | rdv => cases hr
  | nop | setp | bedit | eedit | non | noff | kill => rfl

theorem emitsLike_response {i : Instr} (hr : responds i = true) (w : Word64) : emitsLike i [.response w] := by
  cases i with
  | rdp | rdv => exact ⟨w, rfl⟩
  | nop | setp | bedit | eedit | non | noff | kill | tick => cases hr

/-- A command but TICK appends a response if it is a read, and nothing otherwise. -/
theorem Effect.emits {i : Instr} {s t : State} (he : Effect i s t) (ht : i ≠ .tick) :
    ∃ es, t.out = s.out ++ es ∧ emitsLike i es := by
  have silent (hr : responds i = false) (ho : t.out = s.out) : ∃ es, t.out = s.out ++ es ∧ emitsLike i es :=
    ⟨[], ho.trans (List.append_nil _).symm, emitsLike_nil hr ht⟩
  cases he with
  | nothing hr => exact silent hr rfl
  | error _ _ hr => exact silent hr rfl
  | errorResponse _ _ hr w => exact ⟨_, rfl, emitsLike_response hr w⟩
  | response hr w => exact ⟨_, rfl, emitsLike_response hr w⟩
  | stored _ _ _ hi => exact silent (by rw [hi]; rfl) (by rw [storeParam_eq])
  | cleared _ _ hi => exact silent (by rw [hi]; rfl) rfl
  | started _ _ _ _ hi => exact silent (by rw [hi]; rfl) rfl
  | released _ _ hi => exact silent (by rw [hi]; rfl) rfl
  | killed _ _ hi => exact silent (by rw [hi]; rfl) rfl
  | ticked hi => exact absurd hi ht

/-- Settles O14: TICK appends its one vector, and every other command what its kind of effect does. -/
theorem portDiscipline : Obligations.PortDiscipline := by
  intro i s
  by_cases htick : i = .tick
  · subst htick
    exact ⟨_, _, exec_tick s, rfl, ⟨_, rfl⟩, rfl, rfl⟩
  · obtain ⟨t, ht, he⟩ := exec_effect s i
    obtain ⟨es, hout, hlike⟩ := he.emits htick
    exact ⟨t, es, ht, hout, hlike, he.input_cfg⟩

end Sys2Proof.Machine
end

section
/-! PROOFS. STATUS through a step (60_exceptions.md R231, R233, R236), and the writers of the parameters and of the
voice contexts (10_state.md Table 10-6; 20_memory.md R60, R64). -/

namespace Sys2Proof.Machine

/-- All that a command can do to STATUS. -/
theorem Effect.status_cases {i : Instr} {s t : State} (he : Effect i s t) :
    t.status = s.status ∨ (∃ b, t.status = setStatus s.status b) ∨
      ∃ value, i = .setp 0x0F00 value ∧ t.status = clearStatus s.status value := by
  cases he with
  | error b => exact .inr (.inl ⟨b, rfl⟩)
  | errorResponse b => exact .inr (.inl ⟨b, rfl⟩)
  | stored id value n =>
    rw [storeParam_eq]
    dsimp only
    split
    · exact .inr (.inl ⟨.clamped, rfl⟩)
    · exact .inl rfl
  | cleared id value hi hn =>
    have hid : id = 0x0F00 := targetId_of_lookupId hn
    exact .inr (.inr ⟨value, hid ▸ hi, rfl⟩)
  | nothing | response | started | released | killed | ticked => exact .inl rfl

/-- All that a step can do to STATUS. -/
theorem step_status_cases {s t : State} {w : Word64} {rest : List Word64} (hi : s.input = w :: rest)
    (ht : step s = .next t) :
    t.status = s.status ∨ (∃ b, t.status = setStatus s.status b) ∨
      ∃ value, decode w = .command (.setp 0x0F00 value) ∧ t.status = clearStatus s.status value := by
  rcases step_effect hi ht with ⟨b, -, rfl | ⟨r, rfl⟩, -⟩ | ⟨i, hd, he⟩
  · exact .inr (.inl ⟨b, rfl⟩)
  · exact .inr (.inl ⟨b, rfl⟩)
  · rcases he.status_cases with hsame | hset | ⟨value, rfl, hclear⟩
    · exact .inl hsame
    · exact .inr (.inl hset)
    · exact .inr (.inr ⟨value, hd, hclear⟩)

/-- A bit that `setStatus` set is the named one. -/
theorem eq_index_of_newly_set {st : Word32} {b : StatusBit} {k : Nat} (hnew : (setStatus st b).getLsbD k = true)
    (hold : st.getLsbD k = false) : k = b.index := by
  simpa [hold] using hnew

/-- Settles O48: of all a step can do to STATUS only the setting of one named bit sets any. -/
theorem atMostOneStatusBit : Obligations.AtMostOneStatusBit := by
  intro s t ht j k hj hj' hk hk'
  rcases hi : s.input with _ | ⟨w, rest⟩
  · rw [step_of_nil hi] at ht
    cases ht
    exact absurd (hj.symm.trans hj') Bool.noConfusion
  · rcases step_status_cases hi ht with hsame | ⟨b, hset⟩ | ⟨value, -, hclear⟩
    · rw [hsame, hj'] at hj
      cases hj
    · rw [hset] at hj hk
      exact (eq_index_of_newly_set hj hj').trans (eq_index_of_newly_set hk hk').symm
    · rw [hclear, getLsbD_clearStatus, hj', Bool.false_and] at hj
      cases hj

/-- Settles O49: of all a step can do to STATUS only the write of STATUS clears a bit. -/
theorem statusBitsAreSticky : Obligations.StatusBitsAreSticky := by
  intro s t w rest hi ht hnot k hk
  rcases step_status_cases hi ht with hsame | ⟨b, hset⟩ | ⟨value, hd, -⟩
  · rw [hsame, hk]
  · rw [hset, getLsbD_setStatus, hk, Bool.true_or]
  · exact absurd hd (hnot value)

/-- Only SET_PARAM writes a parameter. -/
theorem Effect.params_writer {i : Instr} {s t : State} (he : Effect i s t) (h : t.params ≠ s.params) :
    ∃ id value, i = .setp id value := by
  cases he with
  | stored id value n hi => exact ⟨id, value, hi⟩
  | nothing | error | errorResponse | response | cleared | started | released | killed | ticked => exact absurd rfl h

/-- Only NOTE_ON, NOTE_OFF, VOICE_KILL and TICK write a voice context. -/
theorem Effect.voices_writer {i : Instr} {s t : State} (he : Effect i s t) (h : t.voices ≠ s.voices) :
    (∃ v note vel, i = .non v note vel) ∨ (∃ v, i = .noff v) ∨ (∃ v, i = .kill v) ∨ i = .tick := by
  cases he with
  | started v note vel _ hi => exact .inl ⟨v, note, vel, hi⟩
  | released v _ hi => exact .inr (.inl ⟨v, hi⟩)
  | killed v _ hi => exact .inr (.inr (.inl ⟨v, hi⟩))
  | ticked hi => exact .inr (.inr (.inr hi))
  | stored => rw [storeParam_eq] at h; exact absurd rfl h
  | nothing | error | errorResponse | response | cleared => exact absurd rfl h

/-- Settles O51: an error writes neither, and of the effects of a command only the named ones do. -/
theorem onlyTheNamedWriters : Obligations.OnlyTheNamedWriters := by
  intro s t w rest hi ht
  rcases step_effect hi ht with ⟨b, -, rfl | ⟨r, rfl⟩, -⟩ | ⟨i, hd, he⟩
  · exact ⟨fun h => absurd rfl h, fun h => absurd rfl h⟩
  · exact ⟨fun h => absurd rfl h, fun h => absurd rfl h⟩
  · simp only [hd, Decoded.command.injEq]
    exact ⟨he.params_writer, he.voices_writer⟩

/-- The voice context that NOTE_ON, NOTE_OFF or VOICE_KILL names. -/
def writtenVoice? : Instr → Option Nat
  | .non v _ _ => some v
  | .noff v => some v
  | .kill v => some v
  | _ => none

theorem responds_of_writtenVoice? {i : Instr} {u : Nat} (h : writtenVoice? i = some u) : responds i = false := by
  cases i with
  | non | noff | kill => rfl
  | nop | setp | bedit | eedit | tick | rdp | rdv => cases h

/-- A voice command writes STATUS, or the one voice context it names. -/
theorem Effect.voice_frame {i : Instr} {s t : State} {u : Nat} (he : Effect i s t) (hu : writtenVoice? i = some u) :
    t.params = s.params ∧ t.out = s.out ∧ t.cfg = s.cfg ∧ ∀ v : Nat, v ≠ u → t.voices[v]? = s.voices[v]? := by
  have hr := responds_of_writtenVoice? hu
  have written (vc : Voice) : ∀ v : Nat, v ≠ u → (s.setVoice u vc).voices[v]? = s.voices[v]? := fun v hv =>
    List.getElem?_set_ne hv.symm
  cases he with
  | nothing | error => exact ⟨rfl, rfl, rfl, fun _ _ => rfl⟩
  | errorResponse _ _ hr' | response hr' => exact absurd (hr.symm.trans hr') Bool.noConfusion
  | stored _ _ _ hi | cleared _ _ hi | ticked hi => rw [hi] at hu; cases hu
  | started _ _ _ _ hi | released _ _ hi | killed _ _ hi =>
    rw [hi] at hu
    cases hu
    exact ⟨rfl, rfl, rfl, written _⟩

/-- Settles O52: each of the three names the voice context it may write. -/
theorem voiceCommandsTouchOneVoice : Obligations.VoiceCommandsTouchOneVoice := by
  rintro s t u note vel (h | h | h) <;> exact (effect_of_exec h).voice_frame rfl

end Sys2Proof.Machine
end

section
/-! PROOFS. The errors of Table 60-1 (60_exceptions.md R231, R233): the exact state after each, and STATUS where there
is none. -/

namespace Sys2Proof.Machine

/-- The one response, with ERR = 1 and a zero value, of a read that raises an error (30_encoding.md R87, R88). -/
def errorResponse : Instr → List Event
  | .rdp id => [.response (paramResponse true id 0#32)]
  | .rdv v sel => [.response (voiceResponse true v sel 0#40)]
  | _ => []

/-- What a word of a legal OP sends out on an error follows from its opcode and operands alone. -/
theorem errorEvents_eq {w : Word64} {op : Opcode} (hop : bits w 63 60 = op.code) :
    errorEvents w = errorResponse (operands op w) := by
  cases op <;> simp only [errorEvents, hop, Opcode.code] <;> rfl

theorem reservedEvents_eq (op : Opcode) (w : Word64) : reservedEvents op w = errorResponse (operands op w) := by
  cases op <;> rfl

theorem errorEvents_of_illegal {w : Word64} (hop : 0xA ≤ bits w 63 60) : errorEvents w = [] := by
  rw [errorEvents, if_neg (by omega), if_neg (by omega)]

/-- The state after the error of STATUS bit `k`, `es` being what the word sends out. -/
def errorState (s : State) (k : Nat) (es : List Event) : State :=
  { s with status := s.status ||| 1#32 <<< k, out := s.out ++ es }

theorem flag_eq_errorState (s : State) (b : StatusBit) : s.flag b = errorState s b.index [] := by
  rw [errorState, List.append_nil]
  rfl

theorem next_flag_eq (s : State) (b : StatusBit) :
    (.next (s.flag b) : Host.Outcome State Fault Refusal) = .next (errorState s b.index []) :=
  congrArg _ (flag_eq_errorState s b)

/-- No error bit of STATUS, 0 to 5, is set in `t` that was not in `s`. -/
def keepsErrorBits (s t : State) : Prop := ∀ k : Nat, k < 6 → t.status.getLsbD k = true → s.status.getLsbD k = true

theorem keepsErrorBits_of_eq {s t : State} (h : t.status = s.status) : keepsErrorBits s t := fun _ _ hk => h ▸ hk

/-- CLAMPED is bit 6, and no error. -/
theorem storeParam_keepsErrorBits (s : State) (n : ParamName) (value : Word32) :
    keepsErrorBits s (storeParam n value s) := by
  intro k hlt hk
  rw [storeParam_eq] at hk
  dsimp only at hk
  split at hk
  · have hne : k ≠ StatusBit.clamped.index := Nat.ne_of_lt hlt
    simpa [hne] using hk
  · exact hk

theorem clearStatus_keepsErrorBits (s : State) (value : Word32) :
    keepsErrorBits s { s with status := clearStatus s.status value } := by
  intro k _ hk
  rw [getLsbD_clearStatus, Bool.and_eq_true] at hk
  exact hk.1

/-- In a state with NUM_VOICES voice contexts, every VOICE below NUM_VOICES names one. -/
theorem exists_voice?_of_lt {s : State} (hcount : s.voices.length = s.cfg.numVoices) {v : Nat}
    (hv : v < s.cfg.numVoices) : ∃ vc, s.voice? v = some vc :=
  ⟨_, voice?_of_good s v _ hv (List.getElem?_eq_getElem (hcount ▸ hv))⟩

/-- What a command does by its error condition: the exact state where there is one, and no error bit where there is
none. -/
def followsErrorBit (s : State) (i : Instr) : Option Nat → Prop
  | some k => k < 6 ∧ exec i s = .next (errorState s k (errorResponse i))
  | none => ∃ t, exec i s = .next t ∧ keepsErrorBits s t

theorem exec_checkKnown_followsErrorBit (s : State) {i : Instr} {id : Nat} (hi : exec i s = checkKnown id s)
    (hr : errorResponse i = []) : followsErrorBit s i (if known id = false then some 2 else none) := by
  split
  · next h => exact ⟨by decide, by rw [hi, checkKnown_unknown s h, next_flag_eq, hr]; rfl⟩
  · next h => exact ⟨s, by rw [hi, checkKnown_known s (Bool.not_eq_false _ ▸ h)], keepsErrorBits_of_eq rfl⟩

theorem known_ne_false {id : Nat} {t : Target} (h : lookupId id = some t) : known id ≠ false := by
  rw [Ne, known_eq_false_iff, h]
  exact Option.some_ne_none t

theorem exec_setp_followsErrorBit (s : State) (id : Nat) (value : Word32) :
    followsErrorBit s (.setp id value) (errorBit s.cfg (.command (.setp id value))) := by
  have writable {t : Target} (h : lookupId id = some t) (ht : t ≠ .config) : id ≠ 0x0F01 := by
    rintro rfl
    exact ht (Option.some.inj (h.symm.trans lookupId_config))
  rcases h : lookupId id with _ | n | _ | _ <;> rw [errorBit]
  · rw [if_pos ((known_eq_false_iff id).mpr h)]
    exact ⟨by decide, (execSetp_unknown s h value).trans (next_flag_eq s .unknownId)⟩
  · rw [if_neg (known_ne_false h), if_neg (writable h Target.noConfusion)]
    exact ⟨_, execSetp_param s h value, storeParam_keepsErrorBits s n value⟩
  · rw [if_neg (known_ne_false h), if_neg (writable h Target.noConfusion)]
    exact ⟨_, execSetp_status s h value, clearStatus_keepsErrorBits s value⟩
  · have hid : id = 0x0F01 := targetId_of_lookupId h
    rw [if_neg (known_ne_false h), if_pos hid]
    exact ⟨by decide, (execSetp_config s h value).trans (next_flag_eq s .readOnly)⟩

theorem exec_rdp_followsErrorBit (s : State) (id : Nat) :
    followsErrorBit s (.rdp id) (errorBit s.cfg (.command (.rdp id))) := by
  rcases h : lookupId id with _ | t <;> rw [errorBit]
  · rw [if_pos ((known_eq_false_iff id).mpr h)]
    exact ⟨by decide, execRdp_unknown s h⟩
  · rw [if_neg (known_ne_false h)]
    exact ⟨_, execRdp_known s h, keepsErrorBits_of_eq rfl⟩

section Voices

variable {s : State} (hcount : s.voices.length = s.cfg.numVoices) (v : Nat)
include hcount

theorem exec_non_followsErrorBit (note vel : Nat) :
    followsErrorBit s (.non v note vel) (errorBit s.cfg (.command (.non v note vel))) := by
  rw [errorBit]
  split
  · next h => exact ⟨by decide, (execNon_bad s (voice?_of_bad s v h) note vel).trans (next_flag_eq s .badVoice)⟩
  · next h =>
    obtain ⟨vc, hvc⟩ := exists_voice?_of_lt hcount (Nat.lt_of_not_le h)
    split
    · next hop => exact ⟨by decide, (execNon_operand s hvc hop).trans (next_flag_eq s .badOperand)⟩
    · next hop => exact ⟨_, execNon_good s hvc (by omega) (by omega), keepsErrorBits_of_eq rfl⟩

theorem exec_noff_followsErrorBit : followsErrorBit s (.noff v) (errorBit s.cfg (.command (.noff v))) := by
  rw [errorBit]
  split
  · next h => exact ⟨by decide, (execNoff_bad s (voice?_of_bad s v h)).trans (next_flag_eq s .badVoice)⟩
  · next h =>
    obtain ⟨vc, hvc⟩ := exists_voice?_of_lt hcount (Nat.lt_of_not_le h)
    exact ⟨_, execNoff_good s hvc, keepsErrorBits_of_eq rfl⟩

theorem exec_kill_followsErrorBit : followsErrorBit s (.kill v) (errorBit s.cfg (.command (.kill v))) := by
  rw [errorBit]
  split
  · next h => exact ⟨by decide, (execKill_bad s (voice?_of_bad s v h)).trans (next_flag_eq s .badVoice)⟩
  · next h =>
    obtain ⟨vc, hvc⟩ := exists_voice?_of_lt hcount (Nat.lt_of_not_le h)
    exact ⟨_, execKill_good s hvc, keepsErrorBits_of_eq rfl⟩

theorem exec_rdv_followsErrorBit (sel : Nat) :
    followsErrorBit s (.rdv v sel) (errorBit s.cfg (.command (.rdv v sel))) := by
  rw [errorBit]
  split
  · next h => exact ⟨by decide, execRdv_bad s (voice?_of_bad s v h) sel⟩
  · next h =>
    obtain ⟨vc, hvc⟩ := exists_voice?_of_lt hcount (Nat.lt_of_not_le h)
    split
    · next hsel => exact ⟨by decide, execRdv_operand s hvc ((selectorOf_eq_none_iff sel).mpr hsel)⟩
    · next hsel =>
      obtain ⟨f, hf⟩ := Option.ne_none_iff_exists'.mp fun hnone => hsel ((selectorOf_eq_none_iff sel).mp hnone)
      exact ⟨_, execRdv_good s hvc hf, keepsErrorBits_of_eq rfl⟩

/-- Every command follows its error condition. -/
theorem exec_followsErrorBit (i : Instr) : followsErrorBit s i (errorBit s.cfg (.command i)) := by
  cases i with
  | nop => exact ⟨s, rfl, keepsErrorBits_of_eq rfl⟩
  | setp id value => exact exec_setp_followsErrorBit s id value
  | bedit id => exact exec_checkKnown_followsErrorBit s rfl rfl
  | eedit id => exact exec_checkKnown_followsErrorBit s rfl rfl
  | non v note vel => exact exec_non_followsErrorBit hcount v note vel
  | noff v => exact exec_noff_followsErrorBit hcount v
  | kill v => exact exec_kill_followsErrorBit hcount v
  | tick => exact ⟨_, rfl, keepsErrorBits_of_eq rfl⟩
  | rdp id => exact exec_rdp_followsErrorBit s id
  | rdv v sel => exact exec_rdv_followsErrorBit hcount v sel

theorem exec_followsErrorBit_of_eq {i : Instr} {k? : Option Nat} (h : errorBit s.cfg (.command i) = k?) :
    followsErrorBit s i k? := h ▸ exec_followsErrorBit hcount i

end Voices

/-- Setting a bit that stands changes nothing. -/
theorem or_bit_eq_self {st : Word32} {k : Nat} (h : st.getLsbD k = true) : st ||| 1#32 <<< k = st := by
  have hbit : 1#32 <<< k = BitVec.twoPow 32 k := rfl
  apply BitVec.eq_of_getLsbD_eq
  intro j _
  rw [BitVec.getLsbD_or, hbit, BitVec.getLsbD_twoPow]
  by_cases hj : k = j
  · rw [← hj, h, Bool.true_or]
  · simp [hj]

/-- A word that meets the error condition of bit `k` leaves that bit and the events of its error. -/
theorem step_of_errorBit {s : State} {w : Word64} {rest : List Word64} (hi : s.input = w :: rest)
    (hcount : s.voices.length = s.cfg.numVoices) {k : Nat} (h : errorBit s.cfg (decode w) = some k) :
    k < 6 ∧ step s = .next (errorState { s with input := rest } k (errorEvents w)) := by
  rcases decode_cases w with ⟨hop, hd⟩ | ⟨op, hop, ⟨-, hd⟩ | ⟨-, hd⟩⟩ <;> rw [hd] at h
  · cases h
    rw [step_of_illegal hi hd, next_flag_eq, errorEvents_of_illegal hop]
    exact ⟨by decide, rfl⟩
  · rw [step_of_command hi hd, errorEvents_eq hop]
    exact (exec_followsErrorBit_of_eq (s := { s with input := rest }) hcount h)
  · cases h
    rw [step_of_reserved hi hd, execReserved_eq_next, errorEvents_eq hop, ← reservedEvents_eq]
    exact ⟨by decide, rfl⟩

/-- Settles O50: illegal and reserved words raise their error, and a command follows its error condition. -/
theorem errorChangesNothingElse : Obligations.ErrorChangesNothingElse := by
  intro s w rest hi hcount
  refine ⟨fun k h => ?_, fun h => ?_⟩
  · obtain ⟨hk, hstep⟩ := step_of_errorBit hi hcount h
    exact ⟨hk, hstep, or_bit_eq_self⟩
  · rcases hd : decode w with _ | op | i <;> rw [hd] at h
    · cases h
    · cases h
    · rw [step_of_command hi hd]
      exact exec_followsErrorBit_of_eq (s := { s with input := rest }) hcount h

end Sys2Proof.Machine
end

section
/-! PROOFS. The parameter commands SET_PARAM, BEGIN_EDIT, END_EDIT and READ_PARAM (46_param_commands.md R191 to R196):
what each leaves, and what a second write or a read after it does (70_reset_and_hazards.md R255, R256). -/

namespace Sys2Proof.Machine

section Store

variable (n : ParamName) (value : Word32) (s : State)

@[simp] theorem storeParam_params :
    (storeParam n value s).params = s.params.set n (storedValue s.cfg.numWaves n value) := by rw [storeParam_eq]

@[simp] theorem storeParam_cfg : (storeParam n value s).cfg = s.cfg := by rw [storeParam_eq]
@[simp] theorem storeParam_voices : (storeParam n value s).voices = s.voices := by rw [storeParam_eq]
@[simp] theorem storeParam_input : (storeParam n value s).input = s.input := by rw [storeParam_eq]
@[simp] theorem storeParam_out : (storeParam n value s).out = s.out := by rw [storeParam_eq]

/-- CLAMPED is set when the clamp changed the value (46_param_commands.md R192). -/
theorem storeParam_status :
    (storeParam n value s).status =
      if storedValue s.cfg.numWaves n value = readValue (paramRow s.cfg.numWaves n).signed value then s.status
      else s.status ||| 0x40#32 := by
  rw [storeParam_eq]
  simp only [clamps, decide_eq_true_eq, ite_not]
  rfl

theorem exec_setp_param {id : Nat} (h : lookupId id = some (.param n)) :
    exec (.setp id value) s = .next (storeParam n value s) := execSetp_param s h value

theorem exec_setp_paramId : exec (.setp (paramId n) value) s = .next (storeParam n value s) :=
  exec_setp_param n value s (lookupId_paramId n)

end Store

/-- Settles O16: the write is `storeParam`, which stores the clamped reading and touches STATUS besides. -/
theorem setParamStoresClamped : Obligations.SetParamStoresClamped := by
  intro s id value n hid
  refine ⟨_, exec_setp_param n value s hid, ⟨_, _, rfl, rfl, ?_, storeParam_status n value s⟩, fun m hm => ?_,
    storeParam_voices .., storeParam_cfg .., storeParam_input .., storeParam_out ..⟩
  · rw [storeParam_params, Params.get_set_same]
    rfl
  · rw [storeParam_params, Params.get_set_ne _ hm]

/-- Settles O18: an unknown id and CONFIG are the two errors of SET_PARAM. -/
theorem setParamErrors : Obligations.SetParamErrors :=
  ⟨fun s _ value h => execSetp_unknown s h value, fun s value => execSetp_config s lookupId_config value⟩

/-- Settles O19: both markers are the one check of the id. -/
theorem editMarkersHaveNoEffect : Obligations.EditMarkersHaveNoEffect :=
  ⟨(known_iff _).mpr ⟨_, lookupId_status⟩, (known_iff _).mpr ⟨_, lookupId_config⟩, fun s _ =>
    ⟨fun h => ⟨checkKnown_known s h, checkKnown_known s h⟩, fun h => ⟨checkKnown_unknown s h, checkKnown_unknown s h⟩⟩⟩

theorem exec_rdp_paramId (s : State) (n : ParamName) :
    exec (.rdp (paramId n)) s =
      .next (s.respond (paramResponse false (paramId n) (BitVec.ofInt 32 (s.params.get n)))) :=
  execRdp_known s (lookupId_paramId n)

/-- Settles O20: the response carries what the id names, and STATUS bit 2 goes with ERR. -/
theorem readParamResponds : Obligations.ReadParamResponds :=
  ⟨exec_rdp_paramId, fun s => execRdp_known s lookupId_status, fun s => execRdp_known s lookupId_config,
    fun s _ h => execRdp_unknown s h⟩

/-- Settles O21: the read gives the pattern of what the write stored. -/
theorem readAfterWrite : Obligations.ReadAfterWrite := by
  intro s n value
  refine ⟨_, _, exec_setp_paramId n value s, exec_rdp_paramId _ n, storedValue s.cfg.numWaves n value, ?_, rfl⟩
  rw [respond_out, storeParam_out, storeParam_params, Params.get_set_same]

/-- Writes of different parameters commute: the stored values do not depend on the parameters, and both set one bit. -/
theorem storeParam_comm (s : State) {m n : ParamName} (h : m ≠ n) (a b : Word32) :
    storeParam n b (storeParam m a s) = storeParam m a (storeParam n b s) := by
  simp only [storeParam_eq]
  rw [Params.set_comm _ h]
  congr 1
  split_ifs <;> rfl

/-- Settles O22: both orders end in the state of `storeParam_comm`. -/
theorem setParamsCommute : Obligations.SetParamsCommute := by
  intro s m n a b h
  refine ⟨_, _, _, exec_setp_paramId m a s, exec_setp_paramId n b _, exec_setp_paramId n b s, ?_⟩
  rw [storeParam_comm s h]
  exact exec_setp_paramId m a _

end Sys2Proof.Machine
end

section
/-! PROOFS. The voice commands NOTE_OFF and READ_VOICE (47_voice_commands.md R211, R213, Table 47-1), and the errors
of all four (60_exceptions.md R233). -/

namespace Sys2Proof.Machine

/-- A note-off by stage (41_envelope.md R124): Release starts from the last level, or ends at once. -/
theorem envRelease_eq (p : OpParams) (E : Env) :
    envRelease p E =
      if E.stage = .idle ∨ E.stage = .release then E
      else { stage := if p.envRelease = 0 then .idle else .release, k := 0#24, level := E.level, l0 := E.level } := by
  unfold envRelease
  cases E.stage with
  | idle | release => rfl
  | delay | attack | hold | decay | sustain => simp only [Env.enter, landing_release]; rfl

/-- Settles O24: a context that is not Active is its own `noteOff`; of an Active one `noteOff_of_active` gives every
field. -/
theorem noteOffReleasesVoice : Obligations.NoteOffReleasesVoice := by
  intro s v vc hv hget
  have hvc := voice?_of_good s v vc hv hget
  have hexec := execNoff_good s hvc
  refine ⟨fun hlife => ?_, fun hlife => ?_⟩
  · rw [noteOff_of_not_active _ _ hlife, setVoice_self s v vc hvc] at hexec
    exact hexec
  · obtain ⟨hnote, hvel, hage, hop, hl⟩ := noteOff_of_active s.params vc hlife
    simp only [envRelease_eq] at hop hl
    refine ⟨_, hexec, hnote, hvel, hage, fun hall => ?_, fun hsome => ?_, fun i => ?_⟩
    · simp only [hop] at hall
      rw [hl, if_pos hall]
    · simp only [hop] at hsome
      rw [hl, if_neg (not_forall.mpr hsome)]
    · rw [hop i]
      exact ⟨rfl, rfl, rfl, rfl⟩

section Selectors

theorem selectorOf_stageLevel : ∀ i : OpIx, selectorOf (2 + i.val) = some (.stageLevel i) := by decide
theorem selectorOf_envK : ∀ i : OpIx, selectorOf (8 + i.val) = some (.envK i) := by decide
theorem selectorOf_envL0 : ∀ i : OpIx, selectorOf (14 + i.val) = some (.envL0 i) := by decide
theorem selectorOf_phase : ∀ i : OpIx, selectorOf (20 + i.val) = some (.phase i) := by decide
theorem selectorOf_prev : ∀ i : OpIx, selectorOf (26 + i.val) = some (.prev i) := by decide
theorem selectorOf_lfo : ∀ i : OpIx, selectorOf (32 + i.val) = some (.lfo i) := by decide

theorem Life.code_lt (l : Life) : l.code < 3 := by cases l <;> decide

theorem Stage.code_lt (st : Stage) : st.code < 7 := by cases st <;> decide

theorem toNat_ofNat_40 {k : Nat} (hk : k < 7) : (BitVec.ofNat 40 k).toNat = k := by
  rw [BitVec.toNat_ofNat]; omega

variable (v : Voice)

theorem payload_lifeNoteVel_toNat :
    (payload v .lifeNoteVel).toNat = v.life.code * 2 ^ 16 + v.note.toNat * 2 ^ 8 + v.vel.toNat := by
  have hlife := v.life.code_lt
  have hcode := toNat_ofNat_40 (Nat.lt_trans hlife (by decide))
  have hnote := BitVec.toNat_setWidth_of_le (b := v.note) (w' := 40) (by decide)
  have hvel := BitVec.toNat_setWidth_of_le (b := v.vel) (w' := 40) (by decide)
  have hn := v.note.isLt
  have hl := v.vel.isLt
  have hlow := toNat_shiftLeft_or (k := 8) (a := v.note.setWidth 40) (x := v.vel.setWidth 40) (by omega) (by omega)
  rw [payload, BitVec.or_assoc, toNat_shiftLeft_or (by omega) (by omega), hlow, hcode, hnote, hvel, Nat.add_assoc]

theorem payload_stageLevel_toNat (i : OpIx) :
    (payload v (.stageLevel i)).toNat = v.ops[i].env.stage.code * 2 ^ 16 + v.ops[i].env.level.toNat := by
  have hstage := v.ops[i].env.stage.code_lt
  have hcode := toNat_ofNat_40 hstage
  have hlevel := BitVec.toNat_setWidth_of_le (b := v.ops[i].env.level) (w' := 40) (by decide)
  have hl := v.ops[i].env.level.isLt
  rw [payload, toNat_shiftLeft_or (by omega) (by omega), hcode, hlevel]

/-- Every selector up to 37 names a field (47_voice_commands.md Table 47-1). -/
theorem exists_selectorOf {sel : Nat} (h : sel ≤ 37) : ∃ f, selectorOf sel = some f :=
  Option.ne_none_iff_exists'.mp fun hnone => Nat.not_lt.mpr h ((selectorOf_eq_none_iff sel).mp hnone)

end Selectors

/-- Settles O26: a selector up to 37 names one field, and the payload is that field packed. -/
theorem readVoiceResponds : Obligations.ReadVoiceResponds := by
  intro s v sel vc hv hget hsel
  obtain ⟨f, hf⟩ := exists_selectorOf hsel
  have named {g : Selector} {k : Nat} (hg : selectorOf k = some g) (hk : sel = k) : f = g :=
    Option.some.inj (hf.symm.trans (hk ▸ hg))
  refine ⟨payload vc f, execRdv_good s (voice?_of_good s v vc hv hget) hf, fun h => ?_, fun h => ?_, fun i =>
    ⟨fun h => ?_, fun h => ?_, fun h => ?_, fun h => ?_, fun h => ?_, fun h => ?_⟩⟩
  · rw [named (g := .lifeNoteVel) rfl h, payload_lifeNoteVel_toNat]
  · rw [named (g := .age) rfl h]
    exact BitVec.toNat_setWidth_of_le (by decide)
  · rw [named (selectorOf_stageLevel i) h, payload_stageLevel_toNat]
  · rw [named (selectorOf_envK i) h]
    exact BitVec.toNat_setWidth_of_le (by decide)
  · rw [named (selectorOf_envL0 i) h]
    exact BitVec.toNat_setWidth_of_le (by decide)
  · rw [named (selectorOf_phase i) h]
    exact BitVec.toNat_setWidth_of_le (by decide)
  · rw [named (selectorOf_prev i) h]
    exact BitVec.toNat_setWidth_of_le (by decide)
  · rw [named (selectorOf_lfo i) h]
    exact BitVec.toNat_setWidth_of_le (by decide)

/-- Settles O27: a VOICE at or above NUM_VOICES names no context, whatever the other operands. -/
theorem voiceCommandErrors : Obligations.VoiceCommandErrors := by
  refine ⟨fun s v note vel sel hv => ?_, fun s v note vel vc hv hget hbad => ?_, fun s v sel vc hv hget hsel => ?_⟩
  · have hnone := voice?_of_bad s v hv
    exact ⟨execNon_bad s hnone note vel, execNoff_bad s hnone, execKill_bad s hnone, execRdv_bad s hnone sel⟩
  · exact execNon_operand s (voice?_of_good s v vc hv hget) hbad
  · exact execRdv_operand s (voice?_of_good s v vc hv hget) ((selectorOf_eq_none_iff sel).mpr hsel)

end Sys2Proof.Machine
end

section
/-! PROOFS. Every command but TICK is idempotent (20_memory.md R64): each write gives, on what it left, the same
again. -/

namespace Sys2Proof.Machine

/-- Two states that agree but for the streams. -/
def sameBlock (u t : State) : Prop :=
  u.params = t.params ∧ u.status = t.status ∧ u.voices = t.voices ∧ u.cfg = t.cfg

theorem sameBlock_flag (s : State) (b : StatusBit) : sameBlock ((s.flag b).flag b) (s.flag b) :=
  ⟨rfl, setStatus_idem _ _, rfl, rfl⟩

theorem sameBlock_respond_flag (s : State) (b : StatusBit) (w w' : Word64) :
    sameBlock ((((s.respond w).flag b).respond w').flag b) ((s.respond w).flag b) :=
  ⟨rfl, setStatus_idem _ _, rfl, rfl⟩

theorem sameBlock_storeParam (s : State) (n : ParamName) (value : Word32) :
    sameBlock (storeParam n value (storeParam n value s)) (storeParam n value s) := by
  refine ⟨?_, ?_, by rw [storeParam_voices], by rw [storeParam_cfg]⟩
  · simp only [storeParam_params, storeParam_cfg, Params.set_set]
  · simp only [storeParam_status, storeParam_cfg]
    split
    · rfl
    · rw [BitVec.or_assoc, BitVec.or_self]

theorem sameBlock_setVoice (s : State) (v : Nat) (vc : Voice) :
    sameBlock ((s.setVoice v vc).setVoice v vc) (s.setVoice v vc) :=
  ⟨rfl, rfl, List.set_set .., rfl⟩

/-- A voice context started twice is started once: `envStart` reads nothing of the envelope, and the LFO is kept or 0.
-/
theorem noteOn_idem (p : Params) (note vel : Nat) (v : Voice) :
    noteOn p note vel (noteOn p note vel v) = noteOn p note vel v := by
  have hop : ∀ i : OpIx, noteOnOp p.ops[i] (noteOn p note vel v).ops[i] = noteOnOp p.ops[i] v.ops[i] := fun i => by
    rw [noteOn_op]
    simp only [noteOnOp, lfoRetrigger]
    split <;> rfl
  rw [noteOn]
  simp only [hop]
  rfl

theorem noteOff_idem (p : Params) (v : Voice) : noteOff p (noteOff p v) = noteOff p v := by
  apply noteOff_of_not_active
  by_cases h : v.life = .active
  · obtain ⟨-, -, -, -, hlife⟩ := noteOff_of_active p v h
    rw [hlife]
    split <;> exact Life.noConfusion
  · rwa [noteOff_of_not_active p v h]

theorem voiceKill_idem (v : Voice) : voiceKill (voiceKill v) = voiceKill v := by
  have hop : ∀ i : OpIx, ({ (voiceKill v).ops[i] with env := envKill (voiceKill v).ops[i].env } : OpCtx) =
      { v.ops[i] with env := envKill v.ops[i].env } := fun i => by rw [voiceKill_op]; rfl
  rw [voiceKill]
  simp only [hop]
  rfl

/-- The command answers a state on which it answers the same block again. -/
def runsTwice (i : Instr) (s : State) : Prop :=
  ∃ t u, exec i s = .next t ∧ exec i t = .next u ∧ sameBlock u t

theorem setp_runsTwice (s : State) (id : Nat) (value : Word32) : runsTwice (.setp id value) s := by
  rcases h : lookupId id with _ | n | _ | _
  · exact ⟨_, _, execSetp_unknown s h value, execSetp_unknown _ h value, sameBlock_flag s _⟩
  · exact ⟨_, _, execSetp_param s h value, execSetp_param _ h value, sameBlock_storeParam s n value⟩
  · exact ⟨_, _, execSetp_status s h value, execSetp_status _ h value, rfl, clearStatus_idem _ _, rfl, rfl⟩
  · exact ⟨_, _, execSetp_config s h value, execSetp_config _ h value, sameBlock_flag s _⟩

theorem checkKnown_runsTwice {i : Instr} {id : Nat} (hi : exec i = checkKnown id) (s : State) : runsTwice i s := by
  rw [runsTwice, hi]
  rcases h : known id with _ | _
  · exact ⟨_, _, checkKnown_unknown s h, checkKnown_unknown _ h, sameBlock_flag s _⟩
  · exact ⟨_, _, checkKnown_known s h, checkKnown_known _ h, rfl, rfl, rfl, rfl⟩

theorem non_runsTwice (s : State) (v note vel : Nat) : runsTwice (.non v note vel) s := by
  rcases h : s.voice? v with _ | vc
  · exact ⟨_, _, execNon_bad s h note vel, execNon_bad (s.flag _) h note vel, sameBlock_flag s _⟩
  · by_cases hbad : 127 < note ∨ 127 < vel
    · exact ⟨_, _, execNon_operand s h hbad, execNon_operand (s.flag _) h hbad, sameBlock_flag s _⟩
    · refine ⟨_, _, execNon_good s h (by omega) (by omega),
        execNon_good _ (voice?_setVoice s v _ h) (by omega) (by omega), ?_⟩
      rw [setVoice_params, noteOn_idem]
      exact sameBlock_setVoice s v _

theorem noff_runsTwice (s : State) (v : Nat) : runsTwice (.noff v) s := by
  rcases h : s.voice? v with _ | vc
  · exact ⟨_, _, execNoff_bad s h, execNoff_bad (s.flag _) h, sameBlock_flag s _⟩
  · refine ⟨_, _, execNoff_good s h, execNoff_good _ (voice?_setVoice s v _ h), ?_⟩
    rw [setVoice_params, noteOff_idem]
    exact sameBlock_setVoice s v _

theorem kill_runsTwice (s : State) (v : Nat) : runsTwice (.kill v) s := by
  rcases h : s.voice? v with _ | vc
  · exact ⟨_, _, execKill_bad s h, execKill_bad (s.flag _) h, sameBlock_flag s _⟩
  · refine ⟨_, _, execKill_good s h, execKill_good _ (voice?_setVoice s v _ h), ?_⟩
    rw [voiceKill_idem]
    exact sameBlock_setVoice s v _

theorem rdp_runsTwice (s : State) (id : Nat) : runsTwice (.rdp id) s := by
  rcases h : lookupId id with _ | t
  · exact ⟨_, _, execRdp_unknown s h, execRdp_unknown _ h, sameBlock_respond_flag s _ _ _⟩
  · exact ⟨_, _, execRdp_known s h, execRdp_known _ h, rfl, rfl, rfl, rfl⟩

theorem rdv_runsTwice (s : State) (v sel : Nat) : runsTwice (.rdv v sel) s := by
  rcases h : s.voice? v with _ | vc
  · exact ⟨_, _, execRdv_bad s h sel, execRdv_bad (State.flag (s.respond _) _) h sel, sameBlock_respond_flag s _ _ _⟩
  · rcases hsel : selectorOf sel with _ | f
    · exact ⟨_, _, execRdv_operand s h hsel, execRdv_operand (State.flag (s.respond _) _) h hsel,
        sameBlock_respond_flag s _ _ _⟩
    · exact ⟨_, _, execRdv_good s h hsel, execRdv_good (s.respond _) h hsel, rfl, rfl, rfl, rfl⟩

/-- Settles O47: command by command, the second run meets the case that the first one met. -/
theorem commandsAreIdempotent : Obligations.CommandsAreIdempotent := by
  intro i s hi
  cases i with
  | nop => exact ⟨s, s, rfl, rfl, rfl, rfl, rfl, rfl⟩
  | setp id value => exact setp_runsTwice s id value
  | bedit id => exact checkKnown_runsTwice rfl s
  | eedit id => exact checkKnown_runsTwice rfl s
  | non v note vel => exact non_runsTwice s v note vel
  | noff v => exact noff_runsTwice s v
  | kill v => exact kill_runsTwice s v
  | tick => exact absurd rfl hi
  | rdp id => exact rdp_runsTwice s id
  | rdv v sel => exact rdv_runsTwice s v sel

end Sys2Proof.Machine
end

section
/-! PROOFS. The envelope (41_envelope.md R122 to R127): entering a stage, one tick by stage, and the runs of an
envelope after a note-on and after a note-off. -/

namespace Sys2Proof.Machine

section Landing

variable {p : OpParams} {st : Stage}

theorem landing_of_duration_ne_zero (h : duration p st ≠ some 0) : landing p st = st := if_neg h

/-- A zero-duration stage is skipped; the loop's bound is never what ends it. -/
theorem landing_of_duration_eq_zero (h : duration p st = some 0) : landing p st = landing p st.next := by
  cases st with
  | idle | sustain => cases h
  | delay => rw [landing_delay, if_pos (Option.some.inj h)]; rfl
  | attack => rw [landing_attack, if_pos (Option.some.inj h)]; rfl
  | hold => rw [landing_hold, if_pos (Option.some.inj h)]; rfl
  | decay => rw [landing_decay, if_pos (Option.some.inj h)]; rfl
  | release => rw [landing_release, if_pos (Option.some.inj h)]; rfl

end Landing

/-- Settles O28: entering a stage is `landing`, which stops at the first stage without a zero duration. -/
theorem stageEntrySkipsZeroDurations : Obligations.StageEntrySkipsZeroDurations := fun p E st =>
  ⟨enter_k p E st, enter_level p E st, enter_l0 p E st, duration_landing_ne_zero p st, landing_of_duration_ne_zero,
    landing_of_duration_eq_zero⟩

section LevelByStage

variable {p : OpParams} {E : Env}

theorem envLevel_of_idle (h : E.stage = .idle) : envLevel p E = 0 := by simp only [envLevel_eq, h]

theorem envLevel_of_delay (h : E.stage = .delay) : envLevel p E = 0 := by simp only [envLevel_eq, h]

theorem envLevel_of_attack (h : E.stage = .attack) :
    envLevel p E = if p.envAttack = 0 then 32768
      else floorDiv (32768 * min ((E.k.toNat : Int) + 1) p.envAttack) p.envAttack := by simp only [envLevel_eq, h]

theorem envLevel_of_hold (h : E.stage = .hold) : envLevel p E = 32768 := by simp only [envLevel_eq, h]

theorem envLevel_of_decay (h : E.stage = .decay) :
    envLevel p E = if p.envDecay = 0 then p.envSustain
      else 32768 - floorDiv ((32768 - p.envSustain) * min ((E.k.toNat : Int) + 1) p.envDecay) p.envDecay := by
  simp only [envLevel_eq, h]

theorem envLevel_of_sustain (h : E.stage = .sustain) : envLevel p E = p.envSustain := by simp only [envLevel_eq, h]

theorem envLevel_of_release (h : E.stage = .release) :
    envLevel p E = if p.envRelease = 0 then 0
      else (E.l0.toNat : Int) - floorDiv (E.l0.toNat * min ((E.k.toNat : Int) + 1) p.envRelease) p.envRelease := by
  simp only [envLevel_eq, h]

theorem envStep_of_idle (h : E.stage = .idle) : (envStep p E).stage = .idle ∧ (envStep p E).k = E.k := by
  obtain ⟨hstage, hk⟩ := envStep_of_untimed p E (by rw [h]; rfl)
  exact ⟨hstage.trans h, hk⟩

theorem envStep_of_sustain (h : E.stage = .sustain) : (envStep p E).stage = .sustain ∧ (envStep p E).k = E.k := by
  obtain ⟨hstage, hk⟩ := envStep_of_untimed p E (by rw [h]; rfl)
  exact ⟨hstage.trans h, hk⟩

end LevelByStage

/-- Settles O29: the level by stage, and the three ways a tick leaves stage and count. -/
theorem envelopeStepByStage : Obligations.EnvelopeStepByStage := fun p E =>
  ⟨envStep_level p E, envStep_l0 p E, fun h => ⟨envLevel_of_idle h, envStep_of_idle h⟩,
    fun h => ⟨envLevel_of_sustain h, envStep_of_sustain h⟩, envLevel_of_delay, envLevel_of_attack, envLevel_of_hold,
    envLevel_of_decay, envLevel_of_release, fun _ hd => ⟨envStep_of_over p E hd, envStep_of_running p E hd⟩⟩

/-- Settles O30: the level is in its range, so that 16 bits hold it, and the envelope after the tick is legal. -/
theorem envelopeLevelInRange : Obligations.EnvelopeLevelInRange := by
  intro p E hp hE
  obtain ⟨hlo, hhi⟩ := envLevel_bounds hp hE.2.1
  exact ⟨hlo, hhi, by rw [envStep_level, ofInt16_toNat hlo hhi], envStep_ok hp hE⟩

section OneTick

variable {p : OpParams} {E : Env} (hp : p.envInRange)
include hp

/-- A count below a duration in range does not overflow, in a legal envelope or not. -/
theorem envStep_counts_below_duration {d : Int} (hd : duration p E.stage = some d) (hrun : (E.k.toNat : Int) + 1 < d) :
    (envStep p E).stage = E.stage ∧ (envStep p E).k.toNat = E.k.toNat + 1 := by
  obtain ⟨hstage, hk⟩ := envStep_of_running p E hd hrun
  obtain ⟨-, hmax⟩ := hp.duration_bounds hd
  refine ⟨hstage, ?_⟩
  rw [hk, BitVec.toNat_ofNat]
  omega

/-- Attack does not fall: its ramp runs on. -/
theorem envLevel_mono_attack (h : E.stage = .attack) (h' : (envStep p E).stage = .attack) :
    envLevel p E ≤ envLevel p (envStep p E) := by
  have hd : duration p E.stage = some p.envAttack := by rw [h]; rfl
  rcases lt_or_ge ((E.k.toNat : Int) + 1) p.envAttack with hrun | hover
  · obtain ⟨-, hk⟩ := envStep_counts_below_duration hp hd hrun
    have hpos : 0 < p.envAttack := by omega
    rw [envLevel_of_attack h, envLevel_of_attack h', if_neg hpos.ne', if_neg hpos.ne', hk]
    exact ramp_mono (by decide) (by omega) hpos
  · have hleft := (envStep_of_over p E hd hover).1
    rw [h', h, Stage.next, landing_hold, landing_decay] at hleft
    split_ifs at hleft

/-- Decay does not rise, nor does the tick that ends it: its ramp runs on, and down to the sustain level. -/
theorem envLevel_anti_decay (h : E.stage = .decay) : envLevel p (envStep p E) ≤ envLevel p E := by
  have hd : duration p E.stage = some p.envDecay := by rw [h]; rfl
  obtain ⟨-, -, -, -, ⟨-, hsustain⟩, -⟩ := id hp
  rcases lt_or_ge ((E.k.toNat : Int) + 1) p.envDecay with hrun | hover
  · obtain ⟨hstage, hk⟩ := envStep_counts_below_duration hp hd hrun
    have hpos : 0 < p.envDecay := by omega
    rw [envLevel_of_decay h, envLevel_of_decay (hstage.trans h), if_neg hpos.ne', if_neg hpos.ne', hk]
    exact Int.sub_le_sub_left (ramp_mono (by omega) (by omega) hpos) _
  · have hnext : (envStep p E).stage = .sustain := by
      rw [(envStep_of_over p E hd hover).1, h]
      rfl
    rw [envLevel_of_sustain hnext, envLevel_of_decay h]
    split
    · exact le_rfl
    · have hpos : 0 < p.envDecay := by
        have := (hp.duration_bounds hd).1
        omega
      have := (ramp_bounds (x := 32768 - p.envSustain) (k := min ((E.k.toNat : Int) + 1) p.envDecay) (by omega)
        (by omega) (by omega) hpos).2
      omega

/-- Release never gives a negative level. -/
theorem envLevel_release_nonneg (h : E.stage = .release) : 0 ≤ envLevel p E := by
  rw [envLevel_of_release h]
  split
  · exact le_rfl
  · have hpos : 0 < p.envRelease := by
      obtain ⟨-, -, -, -, -, hrel, -⟩ := hp
      omega
    have := (ramp_bounds (x := (E.l0.toNat : Int)) (k := min ((E.k.toNat : Int) + 1) p.envRelease) (by omega)
      (by omega) (by omega) hpos).2
    omega

/-- A releasing envelope does not rise: its ramp runs on, and ends in Idle, at level 0. -/
theorem envLevel_anti_releasing (h : E.stage = .release ∨ E.stage = .idle) :
    envLevel p (envStep p E) ≤ envLevel p E := by
  rcases h with h | h
  · have hd : duration p E.stage = some p.envRelease := by rw [h]; rfl
    rcases lt_or_ge ((E.k.toNat : Int) + 1) p.envRelease with hrun | hover
    · obtain ⟨hstage, hk⟩ := envStep_counts_below_duration hp hd hrun
      have hpos : 0 < p.envRelease := by omega
      rw [envLevel_of_release h, envLevel_of_release (hstage.trans h), if_neg hpos.ne', if_neg hpos.ne', hk, envStep_l0]
      exact Int.sub_le_sub_left (ramp_mono (by omega) (by omega) hpos) _
    · have hnext : (envStep p E).stage = .idle := by
        rw [(envStep_of_over p E hd hover).1, h]
        rfl
      rw [envLevel_of_idle hnext]
      exact envLevel_release_nonneg hp h
  · rw [envLevel_of_idle h, envLevel_of_idle (envStep_of_idle h).1]

end OneTick

/-- The stages from which a tick leads to Delay or Attack: nothing but Delay comes before them. -/
theorem stage_before_delay_attack {p : OpParams} {E : Env} :
    ((envStep p E).stage = .delay → E.stage = .delay) ∧
    ((envStep p E).stage = .attack → E.stage = .delay ∨ E.stage = .attack) := by
  rcases envStep_stage_cases p E with e | e <;> rw [e]
  · exact ⟨id, .inr⟩
  · cases E.stage with
    | delay => exact ⟨fun _ => rfl, fun _ => .inl rfl⟩
    | attack =>
      rw [Stage.next, landing_hold, landing_decay]
      split_ifs <;> simp
    | hold =>
      rw [Stage.next, landing_decay]
      split_ifs <;> simp
    | idle | decay | sustain | release => simp [Stage.next]

/-- The level does not fall up to Hold (41_envelope.md R127). -/
theorem envLevel_mono_to_hold {p : OpParams} {E : Env} (hp : p.envInRange) (hl0 : E.l0.toNat ≤ 32768)
    (h : (envStep p E).stage = .delay ∨ (envStep p E).stage = .attack ∨ (envStep p E).stage = .hold) :
    envLevel p E ≤ envLevel p (envStep p E) := by
  obtain ⟨before_delay, before_attack⟩ := stage_before_delay_attack (p := p) (E := E)
  have hnonneg := (envLevel_bounds hp (E := envStep p E) (by rwa [envStep_l0])).1
  rcases h with h | h | h
  · rwa [envLevel_of_delay (before_delay h)]
  · rcases before_attack h with hE | hE
    · rwa [envLevel_of_delay hE]
    · exact envLevel_mono_attack hp hE h
  · rw [envLevel_of_hold h]
    exact (envLevel_bounds hp hl0).2

section Runs

variable (p : OpParams) {E : Env} (n : Nat)

theorem envAfter_l0 (E : Env) : (envAfter p n E).l0 = E.l0 := by
  induction n with
  | zero => rfl
  | succ n ih => rw [envAfter, envStep_l0, ih]

theorem envAfter_releasing (h : E.stage = .release ∨ E.stage = .idle) :
    (envAfter p n E).stage = .release ∨ (envAfter p n E).stage = .idle := by
  induction n with
  | zero => exact h
  | succ n ih => exact envStep_releasing p _ ih

/-- An envelope still in Release after `n` ticks has counted all of them. -/
theorem le_count_of_envAfter_release {p : OpParams} (hp : p.envInRange) (h : E.stage = .release ∨ E.stage = .idle)
    (hn : (envAfter p n E).stage = .release) : n ≤ (envAfter p n E).k.toNat := by
  induction n with
  | zero => exact Nat.zero_le _
  | succ n ih =>
    rw [envAfter] at hn ⊢
    rcases envAfter_releasing p n h with hrel | hidle
    · have hd : duration p (envAfter p n E).stage = some p.envRelease := by rw [hrel]; rfl
      rcases lt_or_ge (((envAfter p n E).k.toNat : Int) + 1) p.envRelease with hrun | hover
      · have hk := (envStep_counts_below_duration hp hd hrun).2
        have := ih hrel
        omega
      · rw [(envStep_of_over p _ hd hover).1, hrel] at hn
        cases hn
    · rw [(envStep_of_idle hidle).1] at hn
      cases hn

/-- After a note-off an envelope is in Release or Idle, from whatever stage (41_envelope.md R124). -/
theorem envRelease_releasing (E : Env) :
    (envRelease p E).stage = .release ∨ (envRelease p E).stage = .idle := by
  rw [envRelease_eq]
  split
  · next h => exact h.symm
  · dsimp only
    split
    · exact .inr rfl
    · exact .inl rfl

/-- Release is over after ENV_RELEASE ticks: the ramp has run through all of L0. -/
theorem levelAt_eq_zero_of_releasing {p : OpParams} (hp : p.envInRange) (h : E.stage = .release ∨ E.stage = .idle)
    (hn : p.envRelease ≤ (n : Int) + 1) : levelAt p n E = 0 := by
  rw [levelAt]
  rcases envAfter_releasing p n h with hrel | hidle
  · have hk := le_count_of_envAfter_release n hp h hrel
    have hmin : min (((envAfter p n E).k.toNat : Int) + 1) p.envRelease = p.envRelease := by omega
    rw [envLevel_of_release hrel, hmin]
    split
    · rfl
    · next hne => rw [floorDiv_eq, Int.mul_ediv_cancel _ hne, sub_self]
  · exact envLevel_of_idle hidle

/-- The first level after a note-off: Release starts from the level before it. -/
theorem levelAt_zero_envRelease_le {p : OpParams} (hp : p.envInRange) (h : E.stage ≠ .release) :
    levelAt p 0 (envRelease p E) ≤ E.level.toNat := by
  have hlevel : levelAt p 0 (envRelease p E) = envLevel p (envRelease p E) := rfl
  rw [hlevel]
  rcases envRelease_releasing p E with hrel | hidle
  · have hl0 : (envRelease p E).l0 = E.level := by
      rw [envRelease_eq] at hrel ⊢
      split
      · next hE =>
        rw [if_pos hE] at hrel
        exact absurd hrel h
      · rfl
    rw [envLevel_of_release hrel, hl0]
    split
    · omega
    · have hpos : 0 < p.envRelease := by
        obtain ⟨-, -, -, -, -, hrel, -⟩ := hp
        omega
      have := (ramp_bounds (x := (E.level.toNat : Int)) (k := min (((envRelease p E).k.toNat : Int) + 1) p.envRelease)
        (by omega) (by omega) (by omega) hpos).1
      omega
  · rw [envLevel_of_idle hidle]
    omega

end Runs

/-- Settles O31: each clause is one about a single tick of the run, or about the count a Release has reached. -/
theorem envelopeMonotone : Obligations.EnvelopeMonotone := by
  intro p E hp
  have hl0 : ∀ n, (envAfter p n (envStart p E)).l0.toNat ≤ 32768 := fun n => by
    rw [envAfter_l0, envStart_l0]
    decide
  have hrel := envRelease_releasing p E
  refine ⟨fun n => ⟨envLevel_mono_to_hold hp (hl0 n), envLevel_anti_decay hp⟩, fun h => ?_,
    levelAt_zero_envRelease_le hp, fun n => envLevel_anti_releasing hp (envAfter_releasing p n hrel), fun n hn => ?_⟩
  · rw [envRelease_eq, if_pos h]
  · exact levelAt_eq_zero_of_releasing n hp hrel (by omega)

end Sys2Proof.Machine
end

section
/-! PROOFS. The frequency of an operator (40_operator.md R100 to R105): the bounds of the pitch exponent, the octave
shift, and the phase increment as one closed value. -/

namespace Sys2Proof.Machine

/-- A product with a Q1.15 factor, floored, is no larger than the other factor (40_operator.md R102). -/
theorem scaled_bounds {x d D : Int} (hx : -32768 ≤ x) (hx' : x ≤ 32768) (hd : -D ≤ d) (hd' : d ≤ D) :
    -D ≤ floorDiv (x * d) 32768 ∧ floorDiv (x * d) 32768 ≤ D := by
  have hmul := mul_bounds (A := 32768) hx hx' hd hd'
  exact floorDiv_bounds (by decide) (by omega) (by omega)

/-- The depths of parameters in range are below 9 octaves (40_operator.md R101). -/
theorem ratioDepth_bounds {nw : Nat} {p : Params} (hp : p.inRange nw) (i : OpIx) :
    (-36863 ≤ envRatioDepth p.ops[i] ∧ envRatioDepth p.ops[i] ≤ 36863) ∧
      -36863 ≤ lfoRatioDepth p.ops[i] ∧ lfoRatioDepth p.ops[i] ≤ 36863 := by
  have h₁ := hp (.op i .envRatioCoarse)
  have h₂ := hp (.op i .envRatioFine)
  have h₃ := hp (.op i .lfoRatioCoarse)
  have h₄ := hp (.op i .lfoRatioFine)
  simp only [paramRow, opRow, Params.get, OpParams.get] at h₁ h₂ h₃ h₄
  unfold envRatioDepth lfoRatioDepth
  omega

/-- The pitch exponent is the sum of two scaled depths and at most four octaves (40_operator.md R102). -/
theorem pitchExponent_bounds {nw : Nat} {p : Params} (hp : p.inRange nw) (i : OpIx) {e l : Int} (he : 0 ≤ e)
    (he' : e ≤ 32768) (hl : -32768 ≤ l) (hl' : l ≤ 32767) :
    -90110 ≤ pitchExponent p.ops[i] e l ∧ pitchExponent p.ops[i] e l ≤ 90110 := by
  obtain ⟨⟨henv, henv'⟩, hlfo, hlfo'⟩ := ratioDepth_bounds hp i
  have h₁ := scaled_bounds (x := e) (by omega) he' henv henv'
  have h₂ := scaled_bounds (x := l) hl (by omega) hlfo hlfo'
  have h₃ := hp (.op i .octave)
  simp only [paramRow, opRow, Params.get, OpParams.get] at h₃
  unfold pitchExponent
  split <;> omega

/-- The exponent is its octaves and its fraction (40_operator.md R103). -/
theorem expOctave_expFrac (x : Int) : expFrac x ≤ 4095 ∧ x = 4096 * expOctave x + expFrac x := by
  unfold expFrac expOctave floorDiv
  omega

/-- Settles O32: the bounds of the exponent give those of its octave, and the split is a division with remainder. -/
theorem pitchExponentBounds : Obligations.PitchExponentBounds := by
  intro nw p i e l hp he he' hl hl'
  obtain ⟨hlo, hhi⟩ := pitchExponent_bounds hp i he he' hl hl'
  obtain ⟨hfrac, hsplit⟩ := expOctave_expFrac (pitchExponent p.ops[i] e l)
  exact ⟨hlo, hhi, by omega, by omega, hfrac, hsplit⟩

/-- `shift` by n − k, its two directions told apart by k ≤ n (40_operator.md R104). -/
theorem shift_sub (t n k : Int) :
    shift t (n - k) = if k ≤ n then t * 2 ^ (n - k).toNat else t / 2 ^ (k - n).toNat := by
  unfold shift
  by_cases h : k ≤ n
  · rw [if_pos h, if_pos (by omega)]
  · rw [if_neg h, if_neg (by omega), neg_sub]
    rfl

/-- Sixteen places put in and taken out again: a right shift drops only what was put in. -/
theorem shift_mul_pow_16 (t m : Int) : shift (t * 65536) (m - 16) = shift t m := by
  have hpow : ∀ k : Nat, (2 : Int) ^ (k + 16) = 2 ^ k * 65536 := fun k => pow_add 2 k 16
  unfold shift floorDiv
  rcases lt_or_ge m 0 with hneg | hnonneg
  · have hexp : (-(m - 16)).toNat = (-m).toNat + 16 := by omega
    rw [if_neg (by omega), if_neg (by omega), hexp, hpow, Int.mul_ediv_mul_of_pos_left _ _ (by decide)]
  · rw [if_pos hnonneg]
    rcases lt_or_ge m 16 with hlt | hge
    · have hexp : (65536 : Int) = 2 ^ m.toNat * 2 ^ (-(m - 16)).toNat := by
        rw [← pow_add, show m.toNat + (-(m - 16)).toNat = 16 by omega]
        rfl
      rw [if_neg (by omega), hexp, ← mul_assoc, Int.mul_ediv_cancel _ (pow_ne_zero _ (by decide))]
    · have hexp : m.toNat = (m - 16).toNat + 16 := by omega
      rw [if_pos (by omega), hexp, hpow, mul_assoc, mul_comm 65536]

/-- EXP2_FRAC starts at 1.0 in every configuration (70_reset_and_hazards.md R253). -/
theorem exp2At_zero (c : Config) : exp2At c 0 = 65536 := by
  have h := c.ok
  simp only [configOk, Bool.and_eq_true, decide_eq_true_eq] at h
  have hhead : c.exp2Frac.head? = some 65536#32 := h.1.2
  rw [exp2At, List.getD_eq_getElem?_getD, ← List.head?_eq_getElem?, hhead]
  rfl

theorem expOctave_whole (m : Int) : expOctave (4096 * m) = m := Int.mul_ediv_cancel_left m (by decide)

theorem mantissa_whole (c : Config) (m : Int) : mantissa c (4096 * m) = 65536 := by
  rw [mantissa, expFrac, expOctave_whole, sub_self]
  exact exp2At_zero c

/-- Settles O33: at a whole octave the mantissa is 2^16, which the shift by 16 places more takes out again. -/
theorem wholeOctavesAreExact : Obligations.WholeOctavesAreExact := by
  intro c p note m
  refine ⟨mantissa_whole c m, ?_, ?_⟩
  · rw [incKeytracked, mantissa_whole, expOctave_whole, show m - 32 = m - 16 - 16 by omega, shift_mul_pow_16]
    rfl
  · rw [incFixed, mantissa_whole, expOctave_whole, shift_mul_pow_16]
    rfl

/-- Settles O58: the increment is one `shift` of the exact product, by the octave less 32 or 16. -/
theorem phaseIncrementValue : Obligations.PhaseIncrementValue := by
  rintro c p note e l X n mant hX rfl rfl
  have hpitch : pitchExponent p e l = X := hX.symm
  rw [phaseInc, hpitch]
  split
  · rw [incKeytracked, shift_sub]
    rfl
  · rw [incFixed, shift_sub]
    rfl

end Sys2Proof.Machine
end

section
/-! PROOFS. The modulation matrix and the operator's output (43_matrix.md R152 to R155; 40_operator.md R106 to R111):
values and bounds, and what a disabled edge leaves out. -/

namespace Sys2Proof.Machine

theorem pmTerm_of_disabled {e : EdgeParams} (h : e.enable = 0) (o : Int) : pmTerm e o = 0 :=
  if_neg fun hon => absurd (h.symm.trans hon.1) (by decide)

theorem rmStep_of_disabled {e : EdgeParams} (h : e.enable = 0) (o w : Int) : rmStep e o w = w :=
  if_neg fun hon => absurd (h.symm.trans hon.1) (by decide)

/-- Settles O35: the one source that differs adds nothing to the sum and is the identity in the chain. -/
theorem disabledEdgeHasNoInfluence : Obligations.DisabledEdgeHasNoInfluence := by
  intro c p o e s t outs outs' _ hoff hsame
  have hpm : pmSum p t outs = pmSum p t outs' := pmSum_congr fun r _ => by
    by_cases hr : r = s
    · rw [hr, pmTerm_of_disabled hoff, pmTerm_of_disabled hoff]
    · rw [hsame r hr]
  have hrm : ∀ w : Int, rmChain p t w outs = rmChain p t w outs' := rmChain_congr fun r w _ => by
    by_cases hr : r = s
    · rw [hr, rmStep_of_disabled hoff, rmStep_of_disabled hoff]
    · rw [hsame r hr]
  exact ⟨hpm, hrm, by simp only [opOut, hpm, hrm]⟩

/-- A sum over the elements that meet a condition is a sum of zeros elsewhere. -/
theorem sum_map_filter {α : Type} (q : α → Bool) (f : α → Int) (l : List α) :
    ((l.filter q).map f).sum = (l.map fun a => if q a then f a else 0).sum := by
  induction l with
  | nil => rfl
  | cons a l ih =>
    rw [List.filter_cons, List.map_cons, List.sum_cons, ← ih]
    split
    · rw [List.map_cons, List.sum_cons]
    · rw [zero_add]

theorem pmSum_eq (p : Params) (t : OpIx) (outs : List Int) :
    pmSum p t outs = ∑ s : OpIx,
      if s < t ∧ p.edges[edgeIndex s t].enable = 1 ∧ p.edges[edgeIndex s t].mode = 0
      then outAt outs s * p.edges[edgeIndex s t].depth * 8 else 0 := by
  rw [pmSum, sources, sum_map_filter, Fin.sum_univ_def]
  simp only [decide_eq_true_eq, pmTerm, ← ite_and]

theorem rmChain_eq (p : Params) (t : OpIx) (w : Int) (outs : List Int) :
    rmChain p t w outs = [(0 : OpIx), 1, 2, 3, 4, 5].foldl
      (fun w s => if s < t then rmStep p.edges[edgeIndex s t] (outAt outs s) w else w) w := by
  have hall : List.finRange 6 = [(0 : OpIx), 1, 2, 3, 4, 5] := by decide
  rw [rmChain, sources, List.foldl_filter, hall]
  simp only [decide_eq_true_eq]

/-- A sum lies between the bounds of its terms, times their number. -/
theorem sum_bounds {l : List Int} {lo hi : Int} (h : ∀ x ∈ l, lo ≤ x ∧ x ≤ hi) :
    l.length * lo ≤ l.sum ∧ l.sum ≤ l.length * hi := by
  have h₁ := List.card_nsmul_le_sum l lo fun x hx => (h x hx).1
  have h₂ := List.sum_le_card_nsmul l hi fun x hx => (h x hx).2
  simp only [nsmul_eq_mul] at h₁ h₂
  exact ⟨h₁, h₂⟩

theorem sources_length_le (t : OpIx) : (sources t).length ≤ 5 := by revert t; decide

theorem pmTerm_bounds {e : EdgeParams} {o : Int} (hd : -16384 ≤ e.depth ∧ e.depth ≤ 16384)
    (ho : -32768 ≤ o ∧ o ≤ 32767) : -2 ^ 32 ≤ pmTerm e o ∧ pmTerm e o ≤ 2 ^ 32 := by
  unfold pmTerm
  split
  · have := mul_bounds (A := 32768) (B := 16384) ho.1 (by omega) hd.1 hd.2
    omega
  · omega

/-- Five sources of 2^32 at most (43_matrix.md R152). -/
theorem pmSum_bounds {nw : Nat} {p : Params} (hp : p.inRange nw) (t : OpIx) {outs : List Int}
    (houts : ∀ s : OpIx, -32768 ≤ outAt outs s ∧ outAt outs s ≤ 32767) :
    -(5 * 2 ^ 32) ≤ pmSum p t outs ∧ pmSum p t outs ≤ 5 * 2 ^ 32 := by
  have hterms : ∀ x ∈ (sources t).map fun s => pmTerm p.edges[edgeIndex s t] (outAt outs s),
      -2 ^ 32 ≤ x ∧ x ≤ 2 ^ 32 := fun x hx => by
    obtain ⟨s, -, rfl⟩ := List.mem_map.mp hx
    exact pmTerm_bounds (hp (.edge (edgeIndex s t) .depth)) (houts s)
  have hsum := sum_bounds hterms
  have hlen := sources_length_le t
  rw [List.length_map] at hsum
  unfold pmSum
  omega

theorem rmFactor_bounds {depth o : Int} (hd : -16384 ≤ depth) (hd' : depth ≤ 16384) (ho : -32768 ≤ o)
    (ho' : o ≤ 32767) :
    -32768 ≤ rmFactor depth o ∧ rmFactor depth o ≤ 32768 := by
  have hmul := mul_bounds (B := 32768) hd hd' ho (by omega)
  exact floorDiv_bounds (by decide) (by omega) (by omega)

theorem rmStep_of_enabled {e : EdgeParams} (h : e.enable = 1 ∧ e.mode = 1) (o w : Int) :
    rmStep e o w = sat16 (floorDiv (w * rmFactor e.depth o) 32768) := if_pos h

/-- The product of an int16 value and a Q1.15 factor is int16 again, unless both are −1.0 (43_matrix.md R153). -/
theorem int16_mul_factor_bounds {w f : Int} (hw : -32768 ≤ w) (hw' : w ≤ 32767) (hf : -32768 ≤ f) (hf' : f ≤ 32768)
    (hne : ¬ (w = -32768 ∧ f = -32768)) : -32768 ≤ floorDiv (w * f) 32768 ∧ floorDiv (w * f) 32768 ≤ 32767 := by
  have hmul : -(32768 * 32768) ≤ w * f ∧ w * f ≤ 32767 * 32768 := by
    by_cases hmin : w = -32768
    · have hf₀ : f ≠ -32768 := fun h => hne ⟨hmin, h⟩
      rw [hmin]
      omega
    · have := mul_bounds (a := w) (b := f) (A := 32767) (B := 32768) (by omega) hw' hf hf'
      omega
  exact floorDiv_bounds (by decide) (by omega) (by omega)

/-- Settles O36: the sum and the chain run over the sources below the target, and each term and step is bounded. -/
theorem modulationBounds : Obligations.ModulationBounds := by
  refine ⟨pmSum_eq, rmChain_eq, fun _ _ => rfl, fun nw p t outs hp houts => pmSum_bounds hp t houts,
    fun depth o => rmFactor_bounds, fun e o w hd hd' ho ho' hw hw' =>
      ⟨fun hon => ⟨?_, fun hne => ?_⟩, fun hoff => if_neg hoff⟩⟩
  · rintro ⟨hmin, hfac⟩
    rw [rmStep_of_enabled hon, hfac, hmin]
    decide
  · obtain ⟨hf, hf'⟩ := rmFactor_bounds hd hd' ho ho'
    obtain ⟨hlo, hhi⟩ := int16_mul_factor_bounds hw hw' hf hf' hne
    rw [rmStep_of_enabled hon, sat16_of_bounds hlo hhi]
    exact ⟨rfl, hlo, hhi⟩

theorem voiceOut_bounds (p : Params) (outs : List Int) : -32768 ≤ voiceOut p outs ∧ voiceOut p outs ≤ 32767 :=
  sat16_bounds _

/-- Settles O37: the last thing done to either is a saturation or keeps an int16 value. -/
theorem outputsFitSixteenBits : Obligations.OutputsFitSixteenBits := by
  intro c p i o e outs
  obtain ⟨hlo, hhi⟩ := opOut_bounds c p i o e outs
  obtain ⟨hvlo, hvhi⟩ := voiceOut_bounds p outs
  exact ⟨hlo, hhi, ofInt16_toInt hlo hhi, ofInt16_toInt hvlo hvhi⟩

/-- Settles O59: the definitions, read from the table entry and the effective phase. -/
theorem operatorOutputValue : Obligations.OperatorOutputValue := by
  rintro c p i o e outs eff w0 w1 rfl rfl rfl
  rfl

end Sys2Proof.Machine
end

section
/-! PROOFS. The mixer (44_lut_mixer.md R168 to R170): its value and bounds, disabled slots, and one operator alone. -/

namespace Sys2Proof.Machine

theorem mixAcc_eq (p : Params) (outs : List Int) :
    mixAcc p outs = ∑ i : OpIx, if p.mix[i].enable = 1 then outAt outs i * p.mix[i].level else 0 :=
  (Fin.sum_univ_def _).symm

/-- One term of the mix: an int16 output, scaled by a level of at most 1.0 (44_lut_mixer.md R168). -/
theorem mixTerm_bounds {m : MixParams} {o : Int} (hl : 0 ≤ m.level ∧ m.level ≤ 16384) (ho : -32768 ≤ o ∧ o ≤ 32767) :
    -32768 * 16384 ≤ mixTerm m o ∧ mixTerm m o ≤ 32767 * 16384 := by
  unfold mixTerm
  split
  · have hlo : -32768 * m.level ≤ o * m.level := Int.mul_le_mul_of_nonneg_right ho.1 hl.1
    have hhi : o * m.level ≤ 32767 * m.level := Int.mul_le_mul_of_nonneg_right ho.2 hl.1
    omega
  · omega

/-- Six terms (44_lut_mixer.md R168). -/
theorem mixAcc_bounds {nw : Nat} {p : Params} (hp : p.inRange nw) {outs : List Int}
    (houts : ∀ s : OpIx, -32768 ≤ outAt outs s ∧ outAt outs s ≤ 32767) :
    6 * (-32768 * 16384) ≤ mixAcc p outs ∧ mixAcc p outs ≤ 6 * (32767 * 16384) := by
  have hsum := sum_bounds (l := (List.finRange 6).map fun i => mixTerm p.mix[i] (outAt outs i)) fun x hx => by
    obtain ⟨i, -, rfl⟩ := List.mem_map.mp hx
    exact mixTerm_bounds (hp (.mix i .level)) (houts i)
  rwa [List.length_map, List.length_finRange] at hsum

/-- A slot contributes by its ENABLE, and by its LEVEL and output only where it is enabled (44_lut_mixer.md R168). -/
theorem mixAcc_congr {p p' : Params} {outs outs' : List Int} (hen : ∀ s : OpIx, p.mix[s].enable = p'.mix[s].enable)
    (hon : ∀ s : OpIx, p.mix[s].enable = 1 → p.mix[s].level = p'.mix[s].level ∧ outAt outs s = outAt outs' s) :
    mixAcc p outs = mixAcc p' outs' := by
  rw [mixAcc_eq, mixAcc_eq]
  refine Finset.sum_congr rfl fun s _ => ?_
  rw [← hen s]
  split
  · next h =>
    obtain ⟨hlevel, hout⟩ := hon s h
    rw [hlevel, hout]
  · rfl

/-- Settles O38: the mix is a sum of six bounded terms, and a disabled slot's term is 0. -/
theorem mixerBounds : Obligations.MixerBounds := by
  refine ⟨fun p outs => ⟨mixAcc_eq p outs, rfl, rfl⟩, fun nw p outs hp houts => ?_,
    fun p p' outs outs' hmaster hen hon => ?_⟩
  · obtain ⟨hlo, hhi⟩ := mixAcc_bounds hp houts
    obtain ⟨hmlo, hmhi⟩ := floorDiv_bounds (a := mixAcc p outs) (b := 16384) (lo := -196608) (hi := 196602) (by decide)
      (by omega) (by omega)
    exact ⟨by omega, by omega, hmlo, hmhi⟩
  · rw [voiceOut, voiceOut, mixed, mixed, mixAcc_congr hen hon, hmaster]

/-- An enabled slot at unit level, alone, mixes to its operator's output (44_lut_mixer.md R170). -/
theorem mixed_of_alone {p : Params} {i : OpIx} (hlevel : p.mix[i].level = 16384) (hen : p.mix[i].enable = 1)
    (hoff : ∀ j : OpIx, j ≠ i → p.mix[j].enable = 0) (outs : List Int) : mixed p outs = outAt outs i := by
  have hacc : mixAcc p outs = outAt outs i * 16384 := by
    rw [mixAcc_eq, Finset.sum_eq_single i, if_pos hen, hlevel]
    · intro j _ hj
      exact if_neg fun hone => absurd ((hoff j hj).symm.trans hone) (by decide)
    · exact fun hi => absurd (Finset.mem_univ i) hi
  rw [mixed, hacc]
  exact Int.mul_ediv_cancel _ (by decide)

/-- An envelope at 1.0 leaves an int16 value as it is, whether ENV_AMP is 1 or not (40_operator.md R109). -/
theorem applyEnvelope_unit (p : OpParams) {w : Int} (hw : -32768 ≤ w ∧ w ≤ 32767) : applyEnvelope p w 32768 = w := by
  have hcancel : floorDiv (w * 32768) 32768 = w := Int.mul_ediv_cancel w (by decide)
  unfold applyEnvelope
  rw [hcancel, sat16_of_bounds hw.1 hw.2, ite_self]

/-- No operator is below operator 0: with its envelope at 1.0 it is its raw waveform (43_matrix.md R150). -/
theorem opOut_zero_unit (c : Config) (p : Params) (o : OpCtx) (outs : List Int) :
    opOut c p 0 o 32768 outs =
      waveAt c p.ops[(0 : OpIx)].waveform
        (BitVec.ofInt 32 (o.phase.toNat + o.prev.toInt * p.fb[(0 : OpIx)] * 8)) := by
  have hpm : pmSum p 0 outs = 0 := rfl
  have hrm : ∀ w, rmChain p 0 w outs = w := fun _ => rfl
  simp only [opOut, hpm, hrm]
  rw [applyEnvelope_unit _ (waveAt_bounds ..), effPhase, add_zero]
  rfl

/-- Settles O39: the mix is operator 0's output, and that is its raw waveform. -/
theorem operatorZeroAlone : Obligations.OperatorZeroAlone := by
  intro c p v hlife _ hlevel hen hoff henv
  have hunit : tickLevel p v 0 = 32768 := henv
  have hout := outAt_tickOuts c p v 0
  rw [hunit, opOut_zero_unit] at hout
  rw [voiceSample, if_neg hlife, voiceOut, mixed_of_alone hlevel hen hoff, hout]
  rfl

end Sys2Proof.Machine
end

section
/-! PROOFS. TICK of every voice context (45_tick.md R180 to R185): a sounding one field by field, the lifecycle and
the age, and what a voice context and its sample do not depend on. -/

namespace Sys2Proof.Machine

/-- Settles O40: both lists that TICK makes are maps over the voice contexts. -/
theorem tickEmitsOneVector : Obligations.TickEmitsOneVector := fun s =>
  ⟨_, _, exec_tick s, List.length_map .., List.length_map ..⟩

/-- The phase accumulates modulo 2^32 (40_operator.md R110). -/
theorem phaseNext_eq_add (phase inc : Word32) : phaseNext phase inc = phase + inc := by
  rw [phaseNext, wrap32, BitVec.ofInt_add, BitVec.ofInt_natCast, BitVec.ofInt_natCast, BitVec.ofNat_toNat,
    BitVec.ofNat_toNat, BitVec.setWidth_eq, BitVec.setWidth_eq]

theorem voiceSample_of_not_free (c : Config) (p : Params) {v : Voice} (h : v.life ≠ .free) :
    voiceSample c p v = BitVec.ofInt 16 (voiceOut p (tickOuts c p v)) := if_neg h

/-- Settles O42: TICK turns a sounding voice context into its `tickVoice`, its operators into `tickOp` of `tickOuts`. -/
theorem tickOfSoundingVoice : Obligations.TickOfSoundingVoice := by
  intro s v vc hget hlife
  have hvoice : (s.voices.map (voiceAfterTick s.cfg s.params))[v]? = some (tickVoice s.cfg s.params vc) := by
    rw [List.getElem?_map, hget, Option.map_some, voiceAfterTick_of_not_free _ _ _ hlife]
  have hsample : (s.voices.map (voiceSample s.cfg s.params))[v]? =
      some (BitVec.ofInt 16 (voiceOut s.params (tickOuts s.cfg s.params vc))) := by
    rw [List.getElem?_map, hget, Option.map_some, voiceSample_of_not_free _ _ hlife]
  refine ⟨_, _, _, _, exec_tick s, hvoice, hsample, tickOuts_length .., tickVoice_note .., tickVoice_vel .., ?_,
    fun i => ⟨tickOuts_getElem? _ _ _ i, ?_⟩⟩
  · rw [tickVoice_age, ageNext_toNat]
  · rw [tickVoice_op]
    exact ⟨tickOp_prev_toInt .., rfl, rfl, phaseNext_eq_add _ _⟩

theorem voiceAfterTick_life_of_not_free (c : Config) (p : Params) {v : Voice} (h : v.life ≠ .free) :
    (voiceAfterTick c p v).life =
      if v.life = .releasing ∧ ∀ i : OpIx, (envStep p.ops[i] v.ops[i].env).stage = .idle then .free else v.life := by
  rw [voiceAfterTick_of_not_free c p v h, tickVoice_life]

/-- Settles O43: the lifecycle of a sounding voice context follows its envelopes after their step. -/
theorem tickLifecycle : Obligations.TickLifecycle := by
  intro c p v
  refine ⟨fun h => ?_, fun h => ?_, fun h => ?_⟩
  · have hnot : ¬ (v.life = .releasing ∧ ∀ i : OpIx, (envStep p.ops[i] v.ops[i].env).stage = .idle) := by simp [h]
    rw [voiceAfterTick_life_of_not_free c p (by simp [h]), if_neg hnot, h]
  · rw [voiceAfterTick_of_free c p v h, tickFree_life, h]
  · have hlife := voiceAfterTick_life_of_not_free c p (v := v) (by simp [h])
    refine ⟨fun hall => ?_, fun hsome => ?_⟩
    · rw [hlife, if_pos ⟨h, hall⟩]
    · rw [hlife, if_neg fun hr => not_forall.mpr hsome hr.2, h]

/-- Settles O44: the age of `tickVoice` and `tickFree`, and of the voice context that NOTE_ON writes. -/
theorem ageCounter : Obligations.AgeCounter := by
  refine ⟨fun c p v => ⟨fun h => ?_, fun h => ?_⟩, fun s v note vel vc hv hget hnote hvel => ?_⟩
  · rw [voiceAfterTick_of_not_free _ _ _ h, tickVoice_age, ageNext_toNat]
  · rw [voiceAfterTick_of_free _ _ _ h, tickFree_age]
  · have hvc := voice?_of_good s v vc hv hget
    have hread := (voice?_eq_some_iff _ v _).mp (voice?_setVoice s v (noteOn s.params note vel vc) hvc)
    exact ⟨_, _, execNon_good s hvc hnote hvel, hread.2, noteOn_age ..⟩

theorem reclaim_with_vel (v : Voice) (vel : BitVec 7) :
    Voice.reclaim { v with vel := vel } = { v.reclaim with vel := vel } := by
  by_cases h : v.life = .releasing ∧ v.allIdle = true
  · calc Voice.reclaim { v with vel := vel }
        = { v with life := .free, vel := vel } := if_pos h
      _ = { v.reclaim with vel := vel } := by rw [Voice.reclaim, if_pos h]
  · calc Voice.reclaim { v with vel := vel }
        = { v with vel := vel } := if_neg h
      _ = { v.reclaim with vel := vel } := by rw [Voice.reclaim, if_neg h]

/-- Settles O45: the outputs are computed from note and operator contexts, and the lifecycle from the envelopes. -/
theorem velocityIsInaudible : Obligations.VelocityIsInaudible := by
  intro c p v vel
  have houts : tickOuts c p { v with vel := vel } = tickOuts c p v := rfl
  by_cases hfree : v.life = .free
  · refine ⟨?_, ?_⟩
    · rw [voiceSample_of_free c p (v := { v with vel := vel }) hfree, voiceSample_of_free c p hfree]
    · rw [voiceAfterTick_of_free c p { v with vel := vel } hfree, voiceAfterTick_of_free c p v hfree]
      rfl
  · refine ⟨?_, ?_⟩
    · rw [voiceSample_of_not_free c p (v := { v with vel := vel }) hfree, voiceSample_of_not_free c p hfree, houts]
    · rw [voiceAfterTick_of_not_free c p { v with vel := vel } hfree, voiceAfterTick_of_not_free c p v hfree]
      exact reclaim_with_vel { v with age := ageNext v.age, ops := Vector.ofFn (tickOp c p v (tickOuts c p v)) } vel

/-- Settles O46: TICK maps one function of the configuration and the parameters over the voice contexts. -/
theorem voicesAreIndependent : Obligations.VoicesAreIndependent := by
  intro s s' v hcfg hparams hget
  refine ⟨_, _, _, _, exec_tick s, exec_tick s', ?_, rfl, rfl, ?_⟩ <;>
    rw [List.getElem?_map, List.getElem?_map, hcfg, hparams, hget]

end Sys2Proof.Machine
end
